-- ==== Sys2Proof/Word.lean ====
section
/-! DEFINITION. The word types of the block: 32-bit register and command words (00_scope.md R20 `REG_W`), bytes. -/

namespace Sys2Proof

/-- A 32-bit register, command or operand word (R20 `REG_W = 32`, R171). -/
abbrev Word := BitVec 32

/-- A byte of a packet, of the RX FIFO or of framebuffer memory (R68, R135). -/
abbrev Byte := BitVec 8

end Sys2Proof
end

