-- ==== Sys2Proof/Syntax.lean ====
section
/-! DEFINITION. The host operations of the block, one constructor of `Instr` per row of the opcode map
(30_encoding.md R175), and the operand types they use. -/

namespace Sys2Proof

/-- The four compositor layers, numbered 0 to 3 in this order (R21, R78). -/
inductive Layer where
  | fg | bg | wb | sp
  deriving DecidableEq, Repr, Inhabited

/-- The two framebuffer address channels of a layer (R21, R81). -/
inductive Channel where
  | ch0 | ch1
  deriving DecidableEq, Repr, Inhabited

/-- `dsi.mode`: the panel path (R43). -/
inductive DisplayMode where
  | command | video
  deriving DecidableEq, Repr, Inhabited

/-- The two blend modes (R79, R343). -/
inductive BlendMode where
  | constantAlpha | pixelAlpha
  deriving DecidableEq, Repr, Inhabited

/-- A TE edge polarity (R49). -/
inductive Edge where
  | rising | falling
  deriving DecidableEq, Repr, Inhabited

/-- The name of a host-supplied list of operations (R95); 16 bits wide in the command word (R174). -/
abbrev CallbackId := BitVec 16

/-- The thirteen panel timing counts as the host supplies them, one operand word each, in the order of R75.
The register layer masks each to `W_TIM` bits when it writes it (R172, R320). -/
structure TimingCounts where
  hTotal : Word
  hActive : Word
  hFp : Word
  hBp : Word
  hSyncStart : Word
  hSyncEnd : Word
  vTotal : Word
  vActive : Word
  vFp : Word
  vBp : Word
  vSyncStart : Word
  vSyncEnd : Word
  standbyVsync : Word
  deriving DecidableEq, Repr, Inhabited

/-- The host operations (R9, R175). Operand words are kept whole here; a field of one is masked to its width
when the operation uses it (R172). -/
inductive Instr where
  /-- `dsi.init`, 0x01 (R230): raw lane count, mode, bit clock, pixel clock. -/
  | dsiInit (lanes : BitVec 4) (mode : DisplayMode) (bitClock pixelClock : Word)
  /-- `dsi.send`, 0x02 (R235): the command byte and its parameter bytes. -/
  | dsiSend (cmd : Byte) (params : List Byte)
  /-- `dsi.read`, 0x03 (R245): the command byte and the largest payload accepted. -/
  | dsiRead (cmd : Byte) (len : Byte)
  /-- `dsi.ulps_enter`, 0x04 (R260). -/
  | dsiUlpsEnter
  /-- `dsi.ulps_exit`, 0x05 (R265). -/
  | dsiUlpsExit
  /-- `dsi.teirq_enable`, 0x06 (R268). -/
  | dsiTeirqEnable
  /-- `dsi.teirq_disable`, 0x07 (R269). -/
  | dsiTeirqDisable
  /-- `dsi.is_te`, 0x08 (R270). -/
  | dsiIsTe (status : Word)
  /-- `dsi.is_error`, 0x09 (R271). -/
  | dsiIsError (status : Word)
  /-- `dsi.clear_error`, 0x0A (R272). -/
  | dsiClearError (status : Word)
  /-- `dsi.sleep`, 0x0B (R275). -/
  | dsiSleep
  /-- `dsi.wakeup`, 0x0C (R276). -/
  | dsiWakeup
  /-- `lcdc.set_timing`, 0x10 (R320). -/
  | lcdcSetTiming (t : TimingCounts)
  /-- `lcdc.set_mode_defaults`, 0x11 (R322). -/
  | lcdcSetModeDefaults
  /-- `lcdc.set_format`, 0x20 (R342): a portable format tag. -/
  | lcdcSetFormat (l : Layer) (tag : BitVec 16)
  /-- `lcdc.set_blend`, 0x21 (R343). -/
  | lcdcSetBlend (l : Layer) (mode : BlendMode) (alpha : Byte)
  /-- `lcdc.set_ckey`, 0x22 (R344): match and replacement colour words, replacement alpha. -/
  | lcdcSetCkey (l : Layer) (matchRgb replaceRgb : Word) (replaceAlpha : Byte)
  /-- `lcdc.set_ckey_alpha`, 0x23 (R345). -/
  | lcdcSetCkeyAlpha (l : Layer) (alpha : Byte)
  /-- `lcdc.set_geometry`, 0x24 (R346): the position, size and zoom words. -/
  | lcdcSetGeometry (l : Layer) (pos size zoom : Word)
  /-- `lcdc.write_addr`, 0x25 (R350). -/
  | lcdcWriteAddr (l : Layer) (c : Channel) (addr : Word)
  /-- `lcdc.enable`, 0x26 (R355). -/
  | lcdcEnable (l : Layer) (on : Bool)
  /-- `lcdc.set_pitch`, 0x27 (R348). -/
  | lcdcSetPitch (l : Layer) (pitch : BitVec 16)
  /-- `lcdc.set_vmirror`, 0x28 (R349). -/
  | lcdcSetVmirror (l : Layer) (on : Bool)
  /-- `lcdc.read_format`, 0x29 (R358). -/
  | lcdcReadFormat (l : Layer)
  /-- `lcdc.start`, 0x30 (R401). -/
  | lcdcStart
  /-- `lcdc.arm_te`, 0x31 (R402). -/
  | lcdcArmTe
  /-- `lcdc.te_trigger`, 0x32 (R403). -/
  | lcdcTeTrigger
  /-- `lcdc.error_clr`, 0x33 (R416). -/
  | lcdcErrorClr
  /-- `irq.enable`, 0x34 (R418). -/
  | irqEnable (mask : Word)
  /-- `irq.disable`, 0x35 (R419). -/
  | irqDisable
  /-- `lcdc.reset`, 0x36 (R421). -/
  | lcdcReset
  /-- `host.set_callback`, 0x37 (R422): `none` unregisters. -/
  | hostSetCallback (l : Layer) (id : Option CallbackId)
  /-- `host.set_fault_callback`, 0x38 (R423): `none` unregisters. -/
  | hostSetFaultCallback (id : Option CallbackId)
  /-- `irq.read_status`, 0x39 (R417). -/
  | irqReadStatus
  /-- `irq.number`, 0x3A (R420). -/
  | irqNumber
  deriving DecidableEq, Repr, Inhabited

end Sys2Proof
end

