-- ==== Sys2Proof/Config.lean ====
section
/-! DEFINITION. The implementation parameters of 00_scope.md R20. A parameter the spec gives a default is a
definition with that default; an OPEN parameter is an opaque constant, so that a claim holds whatever it is.
The free values (draws) the spec asks for are opaque constants applied to the draw counter of the state. -/

namespace Sys2Proof

namespace Config

/-- `ADDR_W = 32` (R20, R135, D8). -/
abbrev addrW : Nat := 32
/-- `W_TIM = 12` (R20, "12-bit counts"). -/
abbrev wTim : Nat := 12
/-- `W_PITCH = 16` (R20, "16-bit pitches"). -/
abbrev wPitch : Nat := 16
/-- `W_GEO = 12` (R20, D49). -/
abbrev wGeo : Nat := 12
/-- `W_SPC = 24` (R20, D53). -/
abbrev wSpc : Nat := 24
/-- `W_FMT = 5` (R20, D50). -/
abbrev wFmt : Nat := 5
/-- `W_PHY = 8` (R20, D27). -/
abbrev wPhy : Nat := 8
/-- `PIX_DIV_MAX = 31`: the largest legal pixel-clock divisor (R20, R230). -/
def pixDivMax : Nat := 31
/-- `N_TAGS = 67`: the number of portable format tags (R20, R178). -/
def nTags : Nat := 67
/-- `T_RX_US = 1000` µs (R20, R246). -/
def tRxUs : Nat := 1000
/-- `T_ULPS_US = 1000` µs (R20, R261). -/
def tUlpsUs : Nat := 1000
/-- `T_WAKEUP_US = 1500` µs (R20, R266). -/
def tWakeupUs : Nat := 1500
/-- `FB_ALIGN = 4` bytes (R20, D8). -/
def fbAlign : Nat := 4
/-- `TE_EDGE = Rising` (R20, D30). -/
def teEdge : Edge := .rising

/-- `PIX_DIV`, with its default `bit_clock / pixel_clock` rounded down (R20, D28). The one division of the block;
`dsi.init` never applies it to a zero pixel clock (R28, R230). -/
def pixDiv (bitClock pixelClock : Word) : Nat := bitClock.toNat / pixelClock.toNat

end Config

/-- The ten PHY timing counts of `dsi.phy` (R46). -/
structure PhyTiming where
  dataExit : BitVec Config.wPhy
  dataPrepare : BitVec Config.wPhy
  dataZero : BitVec Config.wPhy
  dataTrail : BitVec Config.wPhy
  dataWakeup : BitVec Config.wPhy
  clkExit : BitVec Config.wPhy
  clkPrepare : BitVec Config.wPhy
  clkZero : BitVec Config.wPhy
  clkTrail : BitVec Config.wPhy
  clkWakeup : BitVec Config.wPhy
  deriving DecidableEq, Repr, Inhabited

/-- The two PHY generations (R2, R20 `PHY_GEN`). -/
inductive PhyGen where
  | v1 | v2
  deriving DecidableEq, Repr, Inhabited

/-- A colour: one 8-bit component each (R79 `ck_match`, `ck_rep`; D52). -/
structure Rgb where
  r : Byte
  g : Byte
  b : Byte
  deriving DecidableEq, Repr, Inhabited

/-- A pair of geometry components of `W_GEO` bits: a position (x, y) or a size (w, h) (R79, D49). -/
structure GeoPair where
  fst : BitVec Config.wGeo
  snd : BitVec Config.wGeo
  deriving DecidableEq, Repr, Inhabited

/-- A range of framebuffer addresses, both ends in it: a display-capable window (R135). -/
structure Window where
  first : Word
  last : Word
  deriving DecidableEq, Repr, Inhabited

/-- The layer registers whose reset value the spec leaves unspecified (R79: blend, alpha, chroma key, geometry,
pitch). -/
structure LayerRegs where
  blend : BlendMode
  alpha : Byte
  ckMatch : Rgb
  ckRep : Rgb
  ckAlpha : Byte
  pos : GeoPair
  size : GeoPair
  zoom : GeoPair
  pitch : BitVec Config.wPitch
  deriving DecidableEq, Repr, Inhabited

namespace Config

/-- `DSI_BASE`, OPEN (R20, R131): no rule of the model reads it. -/
opaque dsiBase : Word
/-- `LCDC_BASE`, OPEN (R20, R131): no rule of the model reads it. -/
opaque lcdcBase : Word
/-- `REG_OFFSET(field)`, OPEN (R20, R131): byte offset and lowest bit of a named field. No rule of the model
reads it: the model is of the named fields (D7). -/
opaque regOffset : String → Nat × Nat
/-- `PHY_GEN`, OPEN (R20, D81). -/
opaque phyGen : PhyGen
/-- `PHY_TIMING(bit_clock, PHY_GEN)`, OPEN (R20, R46). -/
opaque phyTiming : Word → PhyGen → PhyTiming
/-- `VIDEO_PKT_LEN`, OPEN (R20, R47). -/
opaque videoPktLen : BitVec 16
/-- `T_SETTLE_US`, OPEN (R20, R231, D26). -/
opaque tSettleUs : Nat
/-- `RX_FIFO_DEPTH`, OPEN (R20, R68). -/
opaque rxFifoDepth : Nat
/-- `RX_FLUSH_ON_ISSUE`, OPEN (R20, D17). -/
opaque rxFlushOnIssue : Bool
/-- `LONG_MAX`, OPEN (R20, R235, D71). -/
opaque longMax : Nat
/-- `TAG_RGB565`, OPEN (R20): one of the portable tags (R178). -/
opaque tagRgb565 : Fin 67
/-- The hardware code of RGB565 on the Foreground layer, OPEN; that there is one is the only entry of the table
the source pins (R178). -/
opaque codeRgb565Fg : BitVec wFmt
/-- Every other entry of the format table, OPEN (R178). -/
opaque formatTable : Layer → Nat → Option (BitVec wFmt)
/-- `DISPLAY_MEM`, OPEN (R20, R135, D9), as the address ranges where it holds: what `State.windows` is at launch
(log entry 20). -/
opaque displayWindows : List Window
/-- `DEFAULT_TIMING(mode)`, OPEN (R20, R322, D54). -/
opaque defaultTiming : DisplayMode → TimingCounts
/-- `IRQ_NUM`, OPEN (R20, R420, D70). -/
opaque irqNum : Word
/-- `BPP(code)`, OPEN (R20): bytes per pixel. No rule of the model reads it (R348). -/
opaque bpp : BitVec wFmt → Nat

/-- `FORMAT_CODE(layer, tag)` (R20, R178): OPEN, but supported for RGB565 on the Foreground layer. -/
def formatCode (l : Layer) (tag : Nat) : Option (BitVec wFmt) :=
  if l = .fg ∧ tag = tagRgb565.val then some codeRgb565Fg else formatTable l tag

/-- A free value: the byte a pop of an empty RX FIFO returns at draw `n` (R137, D15). -/
opaque freeByte : Nat → Byte
/-- Free values: what the unspecified registers of a layer hold after a panel-domain reset, at draw `n` (R79,
R421 "any values"). -/
opaque freeLayerRegs : Nat → LayerRegs

end Config

end Sys2Proof
end

