-- ==== Sys2Proof/WellFormed.lean ====
section
/-! DEFINITION. Which terms of `Instr` are host operations a command word can carry. The operand types already
bound every fixed field; the parameter count of `dsi.send` is the one check left (R172). -/

namespace Sys2Proof

/-- `dsi.send` carries its parameter count in one 32-bit word (R172: `n`, a 32-bit unsigned value); every other
operation is well-formed by its operand types. -/
def Instr.wellFormed (i : Instr) : Bool :=
  match i with
  | .dsiSend _ params => decide (params.length < 2 ^ 32)
  | .dsiInit _ _ _ _ => true
  | .dsiRead _ _ => true
  | .dsiUlpsEnter => true
  | .dsiUlpsExit => true
  | .dsiTeirqEnable => true
  | .dsiTeirqDisable => true
  | .dsiIsTe _ => true
  | .dsiIsError _ => true
  | .dsiClearError _ => true
  | .dsiSleep => true
  | .dsiWakeup => true
  | .lcdcSetTiming _ => true
  | .lcdcSetModeDefaults => true
  | .lcdcSetFormat _ _ => true
  | .lcdcSetBlend _ _ _ => true
  | .lcdcSetCkey _ _ _ _ => true
  | .lcdcSetCkeyAlpha _ _ => true
  | .lcdcSetGeometry _ _ _ _ => true
  | .lcdcWriteAddr _ _ _ => true
  | .lcdcEnable _ _ => true
  | .lcdcSetPitch _ _ => true
  | .lcdcSetVmirror _ _ => true
  | .lcdcReadFormat _ => true
  | .lcdcStart => true
  | .lcdcArmTe => true
  | .lcdcTeTrigger => true
  | .lcdcErrorClr => true
  | .irqEnable _ => true
  | .irqDisable => true
  | .lcdcReset => true
  | .hostSetCallback _ _ => true
  | .hostSetFaultCallback _ => true
  | .irqReadStatus => true
  | .irqNumber => true

end Sys2Proof
end

