-- ==== Sys2Proof/Decode.lean ====
section
/-! DEFINITION. Host command words (30_encoding.md R170 to R175): the opcode map as a table, the decoder from a
stream of 32-bit words, and after it the encoder. -/

namespace Sys2Proof

/-- Why the head of a command stream is no host operation. -/
inductive Reject where
  /-- An unassigned opcode, a nonzero reserved-zero field, or a sub-field the row marks 0 (R173, R174). -/
  | illegalCommand
  /-- The stream ends before the operation's last operand word (the spec says nothing of it; log entry 5). -/
  | truncated
  deriving DecidableEq, Repr

/-- The fields of `word0` (R171). -/
structure Fields where
  op : BitVec 8
  l : BitVec 2
  c : BitVec 1
  f : BitVec 1
  s : BitVec 4
  imm : BitVec 16
  deriving DecidableEq, Repr

/-- The fields of a command word (R171). -/
def Fields.ofWord (w : Word) : Fields :=
  { op := w.extractLsb' 0 8, l := w.extractLsb' 8 2, c := w.extractLsb' 10 1, f := w.extractLsb' 11 1,
    s := w.extractLsb' 12 4, imm := w.extractLsb' 16 16 }

/-- The command word with given fields (R171), most significant field first. -/
def Fields.toWord (h : Fields) : Word := h.imm ++ (h.s ++ (h.f ++ (h.c ++ (h.l ++ h.op))))

/-- One row of the opcode map (R175): which fields the operation uses and how many operand words follow. `imm`
has a 1 at every bit of IMM the operation uses. For `dsi.send`, `ops` counts the count word only (R172). -/
structure OpRow where
  op : BitVec 8
  mnemonic : String
  usesL : Bool
  usesC : Bool
  usesF : Bool
  usesS : Bool
  imm : BitVec 16
  ops : Nat
  deriving DecidableEq, Repr

/-- The opcode map (R175), row by row. -/
def opTable : List OpRow := [
  { op := 0x01#8, mnemonic := "dsi.init", usesL := false, usesC := false, usesF := true, usesS := true, imm := 0x0000#16, ops := 2 },
  { op := 0x02#8, mnemonic := "dsi.send", usesL := false, usesC := false, usesF := false, usesS := false, imm := 0x00FF#16, ops := 1 },
  { op := 0x03#8, mnemonic := "dsi.read", usesL := false, usesC := false, usesF := false, usesS := false, imm := 0xFFFF#16, ops := 0 },
  { op := 0x04#8, mnemonic := "dsi.ulps_enter", usesL := false, usesC := false, usesF := false, usesS := false, imm := 0x0000#16, ops := 0 },
  { op := 0x05#8, mnemonic := "dsi.ulps_exit", usesL := false, usesC := false, usesF := false, usesS := false, imm := 0x0000#16, ops := 0 },
  { op := 0x06#8, mnemonic := "dsi.teirq_enable", usesL := false, usesC := false, usesF := false, usesS := false, imm := 0x0000#16, ops := 0 },
  { op := 0x07#8, mnemonic := "dsi.teirq_disable", usesL := false, usesC := false, usesF := false, usesS := false, imm := 0x0000#16, ops := 0 },
  { op := 0x08#8, mnemonic := "dsi.is_te", usesL := false, usesC := false, usesF := false, usesS := false, imm := 0x0000#16, ops := 1 },
  { op := 0x09#8, mnemonic := "dsi.is_error", usesL := false, usesC := false, usesF := false, usesS := false, imm := 0x0000#16, ops := 1 },
  { op := 0x0A#8, mnemonic := "dsi.clear_error", usesL := false, usesC := false, usesF := false, usesS := false, imm := 0x0000#16, ops := 1 },
  { op := 0x0B#8, mnemonic := "dsi.sleep", usesL := false, usesC := false, usesF := false, usesS := false, imm := 0x0000#16, ops := 0 },
  { op := 0x0C#8, mnemonic := "dsi.wakeup", usesL := false, usesC := false, usesF := false, usesS := false, imm := 0x0000#16, ops := 0 },
  { op := 0x10#8, mnemonic := "lcdc.set_timing", usesL := false, usesC := false, usesF := false, usesS := false, imm := 0x0000#16, ops := 13 },
  { op := 0x11#8, mnemonic := "lcdc.set_mode_defaults", usesL := false, usesC := false, usesF := false, usesS := false, imm := 0x0000#16, ops := 0 },
  { op := 0x20#8, mnemonic := "lcdc.set_format", usesL := true, usesC := false, usesF := false, usesS := false, imm := 0xFFFF#16, ops := 0 },
  { op := 0x21#8, mnemonic := "lcdc.set_blend", usesL := true, usesC := false, usesF := true, usesS := false, imm := 0x00FF#16, ops := 0 },
  { op := 0x22#8, mnemonic := "lcdc.set_ckey", usesL := true, usesC := false, usesF := false, usesS := false, imm := 0x00FF#16, ops := 2 },
  { op := 0x23#8, mnemonic := "lcdc.set_ckey_alpha", usesL := true, usesC := false, usesF := false, usesS := false, imm := 0x00FF#16, ops := 0 },
  { op := 0x24#8, mnemonic := "lcdc.set_geometry", usesL := true, usesC := false, usesF := false, usesS := false, imm := 0x0000#16, ops := 3 },
  { op := 0x25#8, mnemonic := "lcdc.write_addr", usesL := true, usesC := true, usesF := false, usesS := false, imm := 0x0000#16, ops := 1 },
  { op := 0x26#8, mnemonic := "lcdc.enable", usesL := true, usesC := false, usesF := true, usesS := false, imm := 0x0000#16, ops := 0 },
  { op := 0x27#8, mnemonic := "lcdc.set_pitch", usesL := true, usesC := false, usesF := false, usesS := false, imm := 0xFFFF#16, ops := 0 },
  { op := 0x28#8, mnemonic := "lcdc.set_vmirror", usesL := true, usesC := false, usesF := true, usesS := false, imm := 0x0000#16, ops := 0 },
  { op := 0x29#8, mnemonic := "lcdc.read_format", usesL := true, usesC := false, usesF := false, usesS := false, imm := 0x0000#16, ops := 0 },
  { op := 0x30#8, mnemonic := "lcdc.start", usesL := false, usesC := false, usesF := false, usesS := false, imm := 0x0000#16, ops := 0 },
  { op := 0x31#8, mnemonic := "lcdc.arm_te", usesL := false, usesC := false, usesF := false, usesS := false, imm := 0x0000#16, ops := 0 },
  { op := 0x32#8, mnemonic := "lcdc.te_trigger", usesL := false, usesC := false, usesF := false, usesS := false, imm := 0x0000#16, ops := 0 },
  { op := 0x33#8, mnemonic := "lcdc.error_clr", usesL := false, usesC := false, usesF := false, usesS := false, imm := 0x0000#16, ops := 0 },
  { op := 0x34#8, mnemonic := "irq.enable", usesL := false, usesC := false, usesF := false, usesS := false, imm := 0x0000#16, ops := 1 },
  { op := 0x35#8, mnemonic := "irq.disable", usesL := false, usesC := false, usesF := false, usesS := false, imm := 0x0000#16, ops := 0 },
  { op := 0x36#8, mnemonic := "lcdc.reset", usesL := false, usesC := false, usesF := false, usesS := false, imm := 0x0000#16, ops := 0 },
  { op := 0x37#8, mnemonic := "host.set_callback", usesL := true, usesC := false, usesF := true, usesS := false, imm := 0xFFFF#16, ops := 0 },
  { op := 0x38#8, mnemonic := "host.set_fault_callback", usesL := false, usesC := false, usesF := true, usesS := false, imm := 0xFFFF#16, ops := 0 },
  { op := 0x39#8, mnemonic := "irq.read_status", usesL := false, usesC := false, usesF := false, usesS := false, imm := 0x0000#16, ops := 0 },
  { op := 0x3A#8, mnemonic := "irq.number", usesL := false, usesC := false, usesF := false, usesS := false, imm := 0x0000#16, ops := 0 }]

/-- The row of an opcode, if the opcode is assigned (R173, R175). -/
def opRow (op : BitVec 8) : Option OpRow := opTable.find? (fun r => r.op == op)

/-- Every field the row does not use is zero (R173). -/
def OpRow.admits (r : OpRow) (h : Fields) : Bool :=
  (r.usesL || h.l == 0#2) && (r.usesC || h.c == 0#1) && (r.usesF || h.f == 0#1) && (r.usesS || h.s == 0#4)
    && (h.imm &&& ~~~r.imm == 0#16)

/-- The bits of `word0` a row fixes: the opcode and every field it does not use. -/
def OpRow.fixedMask (r : OpRow) : Word :=
  Fields.toWord
    { op := 0xFF#8
      l := if r.usesL then 0#2 else 3#2
      c := if r.usesC then 0#1 else 1#1
      f := if r.usesF then 0#1 else 1#1
      s := if r.usesS then 0#4 else 15#4
      imm := ~~~r.imm }

/-- L to the layer (R171, R174). -/
def Layer.ofBits (l : BitVec 2) : Layer :=
  if l = 0#2 then .fg else if l = 1#2 then .bg else if l = 2#2 then .wb else .sp

/-- The layer's number, FG 0, BG 1, WB 2, SP 3 (R78). -/
def Layer.toBits (l : Layer) : BitVec 2 :=
  match l with
  | .fg => 0#2
  | .bg => 1#2
  | .wb => 2#2
  | .sp => 3#2

/-- C to the channel (R174). -/
def Channel.ofBit (c : BitVec 1) : Channel := if c = 1#1 then .ch1 else .ch0

/-- The channel's number. -/
def Channel.toBit (c : Channel) : BitVec 1 :=
  match c with
  | .ch0 => 0#1
  | .ch1 => 1#1

/-- F of `dsi.init`: 0 = Command, 1 = Video (R174). -/
def DisplayMode.ofBit (f : BitVec 1) : DisplayMode := if f = 1#1 then .video else .command

/-- The F bit of a display mode (R174). -/
def DisplayMode.toBit (m : DisplayMode) : BitVec 1 :=
  match m with
  | .command => 0#1
  | .video => 1#1

/-- F of `lcdc.set_blend`: 0 = ConstantAlpha, 1 = PixelAlpha (R174). -/
def BlendMode.ofBit (f : BitVec 1) : BlendMode := if f = 1#1 then .pixelAlpha else .constantAlpha

/-- The F bit of a blend mode (R174). -/
def BlendMode.toBit (m : BlendMode) : BitVec 1 :=
  match m with
  | .constantAlpha => 0#1
  | .pixelAlpha => 1#1

/-- F as a new value: 0 = off, 1 = on (R174). -/
def onOfBit (f : BitVec 1) : Bool := f == 1#1

/-- The F bit of a new value. -/
def onToBit (on : Bool) : BitVec 1 := if on then 1#1 else 0#1

/-- The four bytes of a word, least significant first (R140, R172: packed little-endian). -/
def wordBytes (w : Word) : List Byte :=
  [w.extractLsb' 0 8, w.extractLsb' 8 8, w.extractLsb' 16 8, w.extractLsb' 24 8]

/-- The word of up to four bytes, the first in the low bits (R140). -/
def wordOfBytes (b0 b1 b2 b3 : Byte) : Word := b3 ++ (b2 ++ (b1 ++ b0))

/-- `pack_le`: bytes to words, byte `i` in bits `8*(i mod 4)+7 : 8*(i mod 4)` of word `i div 4`, the unused high
bytes of the last word zero (R140). -/
def packLe : List Byte → List Word
  | [] => []
  | [b0] => [wordOfBytes b0 0#8 0#8 0#8]
  | [b0, b1] => [wordOfBytes b0 b1 0#8 0#8]
  | [b0, b1, b2] => [wordOfBytes b0 b1 b2 0#8]
  | b0 :: b1 :: b2 :: b3 :: rest => wordOfBytes b0 b1 b2 b3 :: packLe rest

/-- The bytes of packed words, in order (R172). -/
def unpackLe (ws : List Word) : List Byte := ws.flatMap wordBytes

/-- The callback operand of F and IMM: registering takes any id, unregistering needs IMM = 0 (R174). -/
def callbackOperand (f : BitVec 1) (imm : BitVec 16) : Except Reject (Option CallbackId) :=
  if f = 1#1 then .ok (some imm) else if imm = 0#16 then .ok none else .error .illegalCommand

/-- An operation of one operand word. -/
def oneOperand (k : Word → Instr) (ws : List Word) : Except Reject (Instr × List Word) :=
  match ws with
  | w1 :: rest => .ok (k w1, rest)
  | [] => .error .truncated

/-- An operation of two operand words. -/
def twoOperands (k : Word → Word → Instr) (ws : List Word) : Except Reject (Instr × List Word) :=
  match ws with
  | w1 :: w2 :: rest => .ok (k w1 w2, rest)
  | _ => .error .truncated

/-- An operation of three operand words. -/
def threeOperands (k : Word → Word → Word → Instr) (ws : List Word) : Except Reject (Instr × List Word) :=
  match ws with
  | w1 :: w2 :: w3 :: rest => .ok (k w1 w2 w3, rest)
  | _ => .error .truncated

/-- `dsi.send`'s operands: the count `n`, then `ceil(n/4)` words of packed parameter bytes (R172). -/
def sendOperands (cmd : Byte) (ws : List Word) : Except Reject (Instr × List Word) :=
  match ws with
  | [] => .error .truncated
  | w1 :: rest =>
    let n := w1.toNat
    let k := (n + 3) / 4
    if rest.length < k then .error .truncated
    else .ok (.dsiSend cmd ((unpackLe (rest.take k)).take n), rest.drop k)

/-- `lcdc.set_timing`'s operands: the thirteen counts in the order of R75 (R172). -/
def timingOperands (ws : List Word) : Except Reject (Instr × List Word) :=
  match ws with
  | w1 :: w2 :: w3 :: w4 :: w5 :: w6 :: w7 :: w8 :: w9 :: w10 :: w11 :: w12 :: w13 :: rest =>
    .ok (.lcdcSetTiming
      { hTotal := w1, hActive := w2, hFp := w3, hBp := w4, hSyncStart := w5, hSyncEnd := w6,
        vTotal := w7, vActive := w8, vFp := w9, vBp := w10, vSyncStart := w11, vSyncEnd := w12,
        standbyVsync := w13 }, rest)
  | _ => .error .truncated

/-- Operand assembly (R172, R174) for a command word whose opcode is assigned and whose reserved fields are
zero. -/
def assemble (h : Fields) (ws : List Word) : Except Reject (Instr × List Word) :=
  let l := Layer.ofBits h.l
  let lo := h.imm.extractLsb' 0 8
  match h.op with
  | 0x01#8 => twoOperands (.dsiInit h.s (DisplayMode.ofBit h.f)) ws
  | 0x02#8 => sendOperands lo ws
  | 0x03#8 => .ok (.dsiRead lo (h.imm.extractLsb' 8 8), ws)
  | 0x04#8 => .ok (.dsiUlpsEnter, ws)
  | 0x05#8 => .ok (.dsiUlpsExit, ws)
  | 0x06#8 => .ok (.dsiTeirqEnable, ws)
  | 0x07#8 => .ok (.dsiTeirqDisable, ws)
  | 0x08#8 => oneOperand .dsiIsTe ws
  | 0x09#8 => oneOperand .dsiIsError ws
  | 0x0A#8 => oneOperand .dsiClearError ws
  | 0x0B#8 => .ok (.dsiSleep, ws)
  | 0x0C#8 => .ok (.dsiWakeup, ws)
  | 0x10#8 => timingOperands ws
  | 0x11#8 => .ok (.lcdcSetModeDefaults, ws)
  | 0x20#8 => .ok (.lcdcSetFormat l h.imm, ws)
  | 0x21#8 => .ok (.lcdcSetBlend l (BlendMode.ofBit h.f) lo, ws)
  | 0x22#8 => twoOperands (fun m r => .lcdcSetCkey l m r lo) ws
  | 0x23#8 => .ok (.lcdcSetCkeyAlpha l lo, ws)
  | 0x24#8 => threeOperands (.lcdcSetGeometry l) ws
  | 0x25#8 => oneOperand (.lcdcWriteAddr l (Channel.ofBit h.c)) ws
  | 0x26#8 => .ok (.lcdcEnable l (onOfBit h.f), ws)
  | 0x27#8 => .ok (.lcdcSetPitch l h.imm, ws)
  | 0x28#8 => .ok (.lcdcSetVmirror l (onOfBit h.f), ws)
  | 0x29#8 => .ok (.lcdcReadFormat l, ws)
  | 0x30#8 => .ok (.lcdcStart, ws)
  | 0x31#8 => .ok (.lcdcArmTe, ws)
  | 0x32#8 => .ok (.lcdcTeTrigger, ws)
  | 0x33#8 => .ok (.lcdcErrorClr, ws)
  | 0x34#8 => oneOperand .irqEnable ws
  | 0x35#8 => .ok (.irqDisable, ws)
  | 0x36#8 => .ok (.lcdcReset, ws)
  | 0x37#8 => (callbackOperand h.f h.imm).map (fun id => (.hostSetCallback l id, ws))
  | 0x38#8 => (callbackOperand h.f h.imm).map (fun id => (.hostSetFaultCallback id, ws))
  | 0x39#8 => .ok (.irqReadStatus, ws)
  | 0x3A#8 => .ok (.irqNumber, ws)
  | _ => .error .illegalCommand

/-- The decoder (R170): the operation at the head of a command stream and the words after it. It selects the row
by `word0[7:0]`, checks the reserved-zero fields, then reads the operand words. -/
def decode (ws : List Word) : Except Reject (Instr × List Word) :=
  match ws with
  | [] => .error .truncated
  | w0 :: rest =>
    let h := Fields.ofWord w0
    match opRow h.op with
    | none => .error .illegalCommand
    | some r => if r.admits h then assemble h rest else .error .illegalCommand

/-- How many 32-bit words the host writes out for a table word: enough for `nbits`, and at least the fourteen of
the longest operation of fixed length, `lcdc.set_timing`. -/
def tableWordCount (nbits : Nat) : Nat := max 14 ((nbits + 31) / 32)

/-- The low `nbits` bits of `w` as 32-bit words, the first word in the low bits, every bit above `nbits` zero. -/
def tableWords (nbits w : Nat) : List Word :=
  (List.range (tableWordCount nbits)).map (fun k => BitVec.ofNat 32 ((w % 2 ^ nbits) / 2 ^ (32 * k)))

/-- The operation the decoder reads from a row's bits `w`, numbered as the opcode table numbers them. -/
def decodeTableWord (nbits w : Nat) : Option Instr :=
  match decode (tableWords nbits w) with
  | .ok (i, _) => some i
  | .error _ => none

/-! ## The encoder -/

/-- A command word of an opcode with every field zero. -/
def bareFields (op : BitVec 8) : Fields := { op := op, l := 0#2, c := 0#1, f := 0#1, s := 0#4, imm := 0#16 }

/-- A byte in IMM[7:0], with IMM[15:8] zero (R174). -/
def immLow (b : Byte) : BitVec 16 := 0#8 ++ b

/-- The F and IMM fields of a callback operand (R174). -/
def callbackFields (h : Fields) (id : Option CallbackId) : Fields :=
  match id with
  | none => { h with f := 0#1, imm := 0#16 }
  | some i => { h with f := 1#1, imm := i }

/-- The fields of an operation's `word0` (R171, R174, R175). -/
def Instr.fields (i : Instr) : Fields :=
  match i with
  | .dsiInit lanes mode _ _ => { bareFields 0x01#8 with f := mode.toBit, s := lanes }
  | .dsiSend cmd _ => { bareFields 0x02#8 with imm := immLow cmd }
  | .dsiRead cmd len => { bareFields 0x03#8 with imm := len ++ cmd }
  | .dsiUlpsEnter => bareFields 0x04#8
  | .dsiUlpsExit => bareFields 0x05#8
  | .dsiTeirqEnable => bareFields 0x06#8
  | .dsiTeirqDisable => bareFields 0x07#8
  | .dsiIsTe _ => bareFields 0x08#8
  | .dsiIsError _ => bareFields 0x09#8
  | .dsiClearError _ => bareFields 0x0A#8
  | .dsiSleep => bareFields 0x0B#8
  | .dsiWakeup => bareFields 0x0C#8
  | .lcdcSetTiming _ => bareFields 0x10#8
  | .lcdcSetModeDefaults => bareFields 0x11#8
  | .lcdcSetFormat l tag => { bareFields 0x20#8 with l := l.toBits, imm := tag }
  | .lcdcSetBlend l mode alpha => { bareFields 0x21#8 with l := l.toBits, f := mode.toBit, imm := immLow alpha }
  | .lcdcSetCkey l _ _ ra => { bareFields 0x22#8 with l := l.toBits, imm := immLow ra }
  | .lcdcSetCkeyAlpha l alpha => { bareFields 0x23#8 with l := l.toBits, imm := immLow alpha }
  | .lcdcSetGeometry l _ _ _ => { bareFields 0x24#8 with l := l.toBits }
  | .lcdcWriteAddr l c _ => { bareFields 0x25#8 with l := l.toBits, c := c.toBit }
  | .lcdcEnable l on => { bareFields 0x26#8 with l := l.toBits, f := onToBit on }
  | .lcdcSetPitch l pitch => { bareFields 0x27#8 with l := l.toBits, imm := pitch }
  | .lcdcSetVmirror l on => { bareFields 0x28#8 with l := l.toBits, f := onToBit on }
  | .lcdcReadFormat l => { bareFields 0x29#8 with l := l.toBits }
  | .lcdcStart => bareFields 0x30#8
  | .lcdcArmTe => bareFields 0x31#8
  | .lcdcTeTrigger => bareFields 0x32#8
  | .lcdcErrorClr => bareFields 0x33#8
  | .irqEnable _ => bareFields 0x34#8
  | .irqDisable => bareFields 0x35#8
  | .lcdcReset => bareFields 0x36#8
  | .hostSetCallback l id => callbackFields { bareFields 0x37#8 with l := l.toBits } id
  | .hostSetFaultCallback id => callbackFields (bareFields 0x38#8) id
  | .irqReadStatus => bareFields 0x39#8
  | .irqNumber => bareFields 0x3A#8

/-- The operand words of an operation (R172). -/
def Instr.operands (i : Instr) : List Word :=
  match i with
  | .dsiInit _ _ bc pc => [bc, pc]
  | .dsiSend _ params => BitVec.ofNat 32 params.length :: packLe params
  | .dsiIsTe w => [w]
  | .dsiIsError w => [w]
  | .dsiClearError w => [w]
  | .lcdcSetTiming t =>
    [t.hTotal, t.hActive, t.hFp, t.hBp, t.hSyncStart, t.hSyncEnd, t.vTotal, t.vActive, t.vFp, t.vBp,
      t.vSyncStart, t.vSyncEnd, t.standbyVsync]
  | .lcdcSetCkey _ m r _ => [m, r]
  | .lcdcSetGeometry _ p sz z => [p, sz, z]
  | .lcdcWriteAddr _ _ a => [a]
  | .irqEnable m => [m]
  | .dsiRead _ _ | .dsiUlpsEnter | .dsiUlpsExit | .dsiTeirqEnable | .dsiTeirqDisable | .dsiSleep | .dsiWakeup
  | .lcdcSetModeDefaults | .lcdcSetFormat _ _ | .lcdcSetBlend _ _ _ | .lcdcSetCkeyAlpha _ _ | .lcdcEnable _ _
  | .lcdcSetPitch _ _ | .lcdcSetVmirror _ _ | .lcdcReadFormat _ | .lcdcStart | .lcdcArmTe | .lcdcTeTrigger
  | .lcdcErrorClr | .irqDisable | .lcdcReset | .hostSetCallback _ _ | .hostSetFaultCallback _ | .irqReadStatus
  | .irqNumber => []

/-- The words of an operation: `word0`, then its operand words (R170). -/
def encode (i : Instr) : List Word := i.fields.toWord :: i.operands

end Sys2Proof
end

