-- ==== Sys2Proof/Machine/State.lean ====
section
/-! DEFINITION. The machine's state as plain data (10_state.md R40 to R105), the reasons a step can stop, and the
state right after power-on reset. A field the spec calls `unset` is an `Option`: `none` is the spec's own value
"holds no value" (R26). The fields under "the model's own" are not the spec's: the schedule and the environment's
inputs, the host program, the draw counter, the last result. -/

namespace Sys2Proof.Machine

/-- A value for each of the four layers (R21, R78). -/
structure PerLayer (α : Type) where
  fg : α
  bg : α
  wb : α
  sp : α
  deriving DecidableEq, Repr

/-- The model fault codes 1 to 13 (R446). -/
inductive FaultCode where
  | unsetRead | invalidAddress | misalignedAddress | notConfigured | linkNotReady | dsiAsleep | blockingInIsr
  | longTooBig | timingNotSet | noFormat | startWhileScanning | initWhileScanning | timingWhileScanning
  deriving DecidableEq, Repr

/-- Why the machine stops with a fault. -/
inductive Fault where
  /-- Raised by `step` in a faulted state: a model fault was raised earlier, `faulted` names it, and no agent steps
  (R99, R446). Safe: the spec gives a faulted run no further state. -/
  | halted (c : FaultCode)
  deriving DecidableEq, Repr

/-- Why a step is refused. -/
inductive Refusal where
  /-- Raised by an arm of `exec` whose operation has no meaning yet; no arm is in that case. Safe. -/
  | notModelled (mnemonic : String)
  /-- Raised by a HOST step whose next command word is no operation (R173, R448 `ILLEGAL_COMMAND`). Safe: the
  spec gives a refused run no observation. -/
  | illegalCommand
  /-- Raised by a HOST step whose command stream ends inside an operation (log entry 5). Safe. -/
  | truncatedCommand
  /-- Raised by a raw register access that is not one aligned 32-bit word (R132, R448 `MMIO_WIDTH`). Safe. -/
  | mmioWidth
  /-- Raised by a raw register access of the right width: the spec gives no register's address (R131, log
  entry 8). Safe. -/
  | registerLayoutOpen
  deriving DecidableEq, Repr

/-! ## DSI configuration (R42 to R51) -/

/-- `dsi.lanes` holds a value in {1, 2} (R44). -/
inductive LaneCount where
  | one | two
  deriving DecidableEq, Repr

/-- `dsi.power` (R50). -/
inductive Power where
  | on | off
  deriving DecidableEq, Repr

/-- The DSI configuration fields (R42 to R51). -/
structure Dsi where
  /-- R42. -/
  configured : Bool
  /-- R43, unset at reset. -/
  mode : Option DisplayMode
  /-- R44, unset at reset. -/
  lanes : Option LaneCount
  /-- R45. -/
  pixDiv : BitVec 5
  /-- R46. -/
  phy : PhyTiming
  /-- R47. -/
  videoPktLen : BitVec 16
  /-- R48. -/
  lpHsa : Bool
  /-- R48. -/
  lpHbp : Bool
  /-- R48. -/
  eotp : Bool
  /-- R49, unset at reset. -/
  teEdge : Option Edge
  /-- R50. -/
  power : Power
  /-- R51: the tick of the last wake-up; none when no settle is pending. -/
  settleFrom : Option Nat
  deriving DecidableEq, Repr

/-! ## Link state (R65 to R69, R94) -/

/-- A DSI packet (R234): short with two data bytes, or long with a payload. -/
inductive Packet where
  | short (dt : BitVec 6) (d0 d1 : Byte)
  | long (dt : BitVec 6) (payload : List Byte)
  deriving DecidableEq, Repr

/-- `link.data` (R65). -/
inductive DataLane where
  | stop | lpTx | bta | ulps | hsFrame
  deriving DecidableEq, Repr

/-- `link.clk` (R66). -/
inductive ClockLane where
  | lp | hs | ulps
  deriving DecidableEq, Repr

/-- `link.job` (R67). -/
inductive Job where
  | txPkt (p : Packet)
  | txRead (p : Packet)
  | ulpsEnter
  | ulpsExit
  deriving DecidableEq, Repr

/-- `ulps`, the `UlpsState` latch (R94). -/
inductive UlpsLatch where
  | entered | exited
  deriving DecidableEq, Repr

/-- The link: lanes, job, ULPS latch, RX FIFO and write-array port (R65 to R69, R94). -/
structure Link where
  /-- R65. -/
  data : DataLane
  /-- R66. -/
  clk : ClockLane
  /-- R67. -/
  job : Option Job
  /-- R94. -/
  ulps : UlpsLatch
  /-- `rx.fifo`, oldest first (R68). -/
  rxFifo : List Byte
  /-- The bytes the panel has sent since the bus turnaround, which `RxEnd` puts in the wire log (R242). -/
  rxSent : List Byte
  /-- `wr.array` (R69). -/
  wrArray : List Word
  deriving DecidableEq, Repr

/-! ## Status and enable words (R70 to R74) -/

/-- The unified status and enable words (R70, R73, R74). -/
structure Irq where
  status : Word
  enable : Word
  fatalMasked : BitVec 2
  deriving DecidableEq, Repr

/-! ## Panel timing (R75 to R77) -/

/-- The thirteen timing counts as the register layer holds them, `W_TIM` bits each (R75). -/
structure TimingRegs where
  hTotal : BitVec Config.wTim
  hActive : BitVec Config.wTim
  hFp : BitVec Config.wTim
  hBp : BitVec Config.wTim
  hSyncStart : BitVec Config.wTim
  hSyncEnd : BitVec Config.wTim
  vTotal : BitVec Config.wTim
  vActive : BitVec Config.wTim
  vFp : BitVec Config.wTim
  vBp : BitVec Config.wTim
  vSyncStart : BitVec Config.wTim
  vSyncEnd : BitVec Config.wTim
  standbyVsync : BitVec Config.wTim
  deriving DecidableEq, Repr

/-- Panel timing (R75 to R77). The thirteen counts are written together and unset together. -/
structure Tim where
  /-- R75, unset at reset. -/
  counts : Option TimingRegs
  /-- R76, unset at reset. -/
  smartPix : Option (BitVec Config.wSpc)
  /-- R76. -/
  dumbEn : Bool
  /-- R76. -/
  vsyncMode : Bool
  /-- R77. -/
  set : Bool
  deriving DecidableEq, Repr

/-! ## Layers (R78 to R83) -/

/-- A layer's configuration registers (R79): those with an unspecified reset value (`LayerRegs`), and the format
code (unset at reset), the vertical mirror and the enable. -/
structure LayerCfg extends LayerRegs where
  fmt : Option (BitVec Config.wFmt)
  vmirror : Bool
  en : Bool
  deriving DecidableEq, Repr

/-- `layer[l].state` (R83). -/
inductive LayerPhase where
  | disabled | configuring | enabled
  deriving DecidableEq, Repr

/-- One layer (R79 to R83). `act = none` is the active configuration with every field unset and `act.en` false
(R80); after a latch it is a copy of `sh`. -/
structure LayerState where
  sh : LayerCfg
  act : Option LayerCfg
  addr0 : Option Word
  addr1 : Option Word
  cur : Channel
  phase : LayerPhase
  deriving DecidableEq, Repr

/-! ## Framebuffer memory (20_memory.md R130, R135) -/

/-- Framebuffer memory: the bytes whose value is known, by address, in rising order. An address not listed holds
a byte nobody knows (log entry 7). -/
abbrev Memory := List Host.Cell

/-! ## Frame synchronisation (R88 to R91, R408) -/

/-- The two fatal error kinds (R88). -/
inductive ErrKind where
  | axiBus | errIrq
  deriving DecidableEq, Repr

/-- `frame.fsm` (R88, R400). -/
inductive Fsm where
  | idle | armedSoftware | armedHardwareTE | scanning | frameDone
  | error (k : ErrKind)
  deriving DecidableEq, Repr

/-- `frame.arm` (R89). -/
inductive ArmMode where
  | software | te
  deriving DecidableEq, Repr

/-- One layer of the scan set (R91): the channel it scans, the address read at frame begin, and the known bytes
of its region at frame begin (R143). -/
structure ScanEntry where
  ch : Channel
  addr : Word
  bytes : Memory
  deriving DecidableEq, Repr

/-- `frame.scan`: the frame in flight (R91), with the frame number, mode and timing at begin that its record
carries (R408) and the layers a producer write raced (R143). -/
structure Scan where
  k : Nat
  mode : DisplayMode
  tim : Tim
  layers : PerLayer (Option ScanEntry)
  lost : Bool
  corrupt : PerLayer Bool
  raced : PerLayer Bool
  deriving DecidableEq, Repr

/-- The frame machine (R88 to R91). -/
structure Frame where
  fsm : Fsm
  arm : ArmMode
  valid : Bool
  scan : Option Scan
  deriving DecidableEq, Repr

/-- How a frame ended (R408). -/
inductive FrameOutcome where
  | done
  | aborted (k : ErrKind)
  | abandoned
  deriving DecidableEq, Repr

/-- A layer in a frame record: `(l, ch, a, act)` (R408), and the known bytes of its region at frame begin (R143). -/
structure LayerShot where
  ch : Channel
  addr : Word
  act : Option LayerCfg
  bytes : Memory
  deriving DecidableEq, Repr

/-- A frame record (R408). -/
structure FrameRecord where
  k : Nat
  mode : DisplayMode
  tim : Tim
  layers : PerLayer (Option LayerShot)
  lost : Bool
  corrupt : PerLayer Bool
  raced : PerLayer Bool
  outcome : FrameOutcome
  deriving DecidableEq, Repr

/-! ## Host, handler and logs (R95 to R100, R441) -/

/-- What a read returns (R441). -/
inductive RxResult where
  | ok (bytes : List Byte)
  | okWarn (bytes : List Byte) (k : Nat)
  | panelNack (report : BitVec 16)
  | malformed
  | transport
  deriving DecidableEq, Repr

/-- Result values of host operations (R441). -/
inductive Result where
  | ok | invalidConfig | unsupportedFormat | paused | ulpsTimeout
  | rx (r : RxResult)
  | bool (b : Bool)
  | word (w : Word)
  deriving DecidableEq, Repr

/-- The stage of a read's loop (R96). -/
inductive ReadStage where
  | poll | drain
  deriving DecidableEq, Repr

/-- `host.phase` (R96). -/
inductive HostPhase where
  | ready
  | reading (cmd : Byte) (len : Byte) (t0 : Nat) (buf : List Byte) (stage : ReadStage)
  | ulpsEntering (t0 : Nat)
  | ulpsExiting (t0 : Nat)
  deriving DecidableEq, Repr

/-- An item of `isr.work` (R97, R453). -/
inductive Action where
  | op (i : Instr)
  | defaultStart
  deriving DecidableEq, Repr

/-- What became of the last operation issued (R10): the model's own record of the outcome. -/
inductive Ret where
  /-- No operation has been issued. -/
  | idle
  /-- (a): it completed with this result. -/
  | returned (r : Result)
  /-- It is inside its wait: a blocking operation has been issued and has not returned. -/
  | waiting
  /-- (d): it holds, and nothing else has changed. -/
  | held
  /-- (b): it raised a model fault. -/
  | aborted
  deriving DecidableEq, Repr

/-- `isr.active` and `isr.work` (R97). -/
structure Isr where
  active : Bool
  work : List Action
  deriving DecidableEq, Repr

/-- The registered callbacks (R95). -/
structure Callbacks where
  frame : PerLayer (Option CallbackId)
  fault : Option CallbackId
  deriving DecidableEq, Repr

/-- `Ops(id, l, ch)` of the host program, for one id, layer and channel (R455). -/
structure FrameOps where
  id : CallbackId
  layer : Layer
  ch : Channel
  ops : List Instr
  deriving DecidableEq, Repr

/-- `Ops(id, kind)` of the host program, for one id and error kind (R455). -/
structure FaultOps where
  id : CallbackId
  kind : ErrKind
  ops : List Instr
  deriving DecidableEq, Repr

/-- The host program: the command words not yet issued, and what each callback id stands for (R9, R149, R455). -/
structure HostProgram where
  words : List Word
  frameOps : List FrameOps
  faultOps : List FaultOps
  deriving DecidableEq, Repr

/-- A lane in a ULPS event. -/
inductive UlpsLane where
  | clock | data
  deriving DecidableEq, Repr

/-- An entry of the `wire` log (R100). -/
inductive WireEvent where
  | txLp (p : Packet)
  | txHs (k : Nat)
  | bta
  | rx (bytes : List Byte)
  | clkLp
  | ulpsEntry (lane : UlpsLane)
  | ulpsExit (lane : UlpsLane)
  deriving DecidableEq, Repr

/-- An entry of the `diag` log (R100). -/
inductive DiagEvent where
  | lostFrame
  | extraRxBytes (n : Nat)
  | fatalError (k : ErrKind)
  | ulpsEnterTimeout
  deriving DecidableEq, Repr

/-- An entry of the `events` log (R100). -/
inductive CallbackEvent where
  | frameDoneCb (l : Layer) (ch : Channel)
  | faultCb (k : ErrKind)
  deriving DecidableEq, Repr

/-- The observable logs (R100). -/
structure Logs where
  wire : List WireEvent
  frames : List FrameRecord
  diag : List DiagEvent
  events : List CallbackEvent
  deriving DecidableEq, Repr

/-! ## Schedule and environment inputs (R8, R479) -/

/-- What the environment may do (R242 to R244, R410 to R414, R479). -/
inductive EnvEvent where
  | rxByte (b : Byte)
  | rxEnd
  | rxTimeout
  | btaFail
  | rxError
  | teEdge (pol : Edge)
  | underflow
  | axiError
  | errIrq
  deriving DecidableEq, Repr

/-- Which agent takes a step, and for the outside world what it does (R8). -/
inductive Choice where
  | host
  | isr
  | link
  | scan
  | timer
  | env (e : EnvEvent)
  /-- The frame producer writes a pixel byte (R139, R143). -/
  | pixelWrite (a : Word) (b : Byte)
  /-- The host accesses `bytes` bytes at a register-space address, outside the host operations (R132). -/
  | rawAccess (a : Word) (bytes : Nat)
  deriving DecidableEq, Repr

/-- The whole machine. -/
structure State where
  dsi : Dsi
  link : Link
  irq : Irq
  tim : Tim
  layers : PerLayer LayerState
  frame : Frame
  cb : Callbacks
  phase : HostPhase
  isr : Isr
  /-- The system timer's tick, in microseconds (R98). -/
  now : Nat
  /-- The first model fault raised (R99). -/
  faulted : Option FaultCode
  logs : Logs
  /-- Framebuffer memory (R130, R135). -/
  mem : Memory
  /-- The model's own: the host program (R149, R455). -/
  prog : HostProgram
  /-- The model's own: the platform's display-capable windows, which are the parameter `DISPLAY_MEM` (R20, R135, log
  entry 20). No step changes them. -/
  windows : List Window
  /-- The model's own: which agents step next, in order (R8); when it is empty the HOST steps. -/
  sched : List Choice
  /-- The model's own: how many free values have been drawn. -/
  draws : Nat
  /-- The model's own: what became of the last operation issued (R10). -/
  ret : Ret
  deriving DecidableEq, Repr

/-! ## Reset (R105, R490) -/

/-- The value the model names for the unspecified layer registers at power-on (DESIGN CHOICE, log entry 2). -/
def LayerRegs.por : LayerRegs :=
  { blend := .constantAlpha, alpha := 0#8, ckMatch := ⟨0#8, 0#8, 0#8⟩, ckRep := ⟨0#8, 0#8, 0#8⟩, ckAlpha := 0#8,
    pos := ⟨0, 0⟩, size := ⟨0, 0⟩, zoom := ⟨0, 0⟩, pitch := 0 }

/-- A layer after a reset, given what its unspecified registers hold (R79 to R83). -/
def LayerState.afterReset (r : LayerRegs) : LayerState :=
  { sh := { toLayerRegs := r, fmt := none, vmirror := false, en := false }
    act := none, addr0 := none, addr1 := none, cur := .ch0, phase := .disabled }

/-- Panel timing after a reset (R75 to R77). -/
def Tim.afterReset : Tim := { counts := none, smartPix := none, dumbEn := false, vsyncMode := false, set := false }

/-- The frame machine after a reset (R88 to R91). -/
def Frame.afterReset : Frame := { fsm := .idle, arm := .software, valid := false, scan := none }

/-- The machine right after power-on reset (R105 column POR, R490). The unspecified fields hold the values that
log entry 2 names; the model's own fields are empty. -/
def State.reset : State :=
  { dsi :=
      { configured := false, mode := none, lanes := none, pixDiv := 0#5, phy := ⟨0, 0, 0, 0, 0, 0, 0, 0, 0, 0⟩,
        videoPktLen := 0#16, lpHsa := false, lpHbp := false, eotp := false, teEdge := none, power := .on,
        settleFrom := none }
    link := { data := .stop, clk := .lp, job := none, ulps := .exited, rxFifo := [], rxSent := [], wrArray := [] }
    irq := { status := 0#32, enable := 0#32, fatalMasked := 0#2 }
    tim := Tim.afterReset
    layers :=
      { fg := LayerState.afterReset LayerRegs.por, bg := LayerState.afterReset LayerRegs.por,
        wb := LayerState.afterReset LayerRegs.por, sp := LayerState.afterReset LayerRegs.por }
    frame := Frame.afterReset
    cb := { frame := ⟨none, none, none, none⟩, fault := none }
    phase := .ready
    isr := { active := false, work := [] }
    now := 0
    faulted := none
    logs := { wire := [], frames := [], diag := [], events := [] }
    mem := []
    prog := { words := [], frameOps := [], faultOps := [] }
    windows := Config.displayWindows
    sched := []
    draws := 0
    ret := .idle }

end Sys2Proof.Machine
end

