-- ==== Sys2Proof/Machine/Flags.lean ====
section
/-! DEFINITION. Register fields and the unified status and enable words (00_scope.md R26, 20_memory.md R133,
10_state.md R70 to R74, 60_exceptions.md R442, R450). -/

namespace Sys2Proof.Machine

/-- `FieldWrite` (R133): the word `w` with `trunc_W(v)` in the `W` bits from `lo`, every other bit kept. -/
def fieldWrite (w : Word) (lo width : Nat) (v : Word) : Word :=
  let m := ((1#32 <<< width) - 1#32) <<< lo
  (w &&& ~~~m) ||| ((v <<< lo) &&& m)

/-- A one-bit field write (R133). -/
def putBit (w : Word) (i : Nat) (b : Bool) : Word := fieldWrite w i 1 (if b then 1#32 else 0#32)

/-- The causes of the unified status word (R70, R442). -/
inductive Cause where
  | frameDone (l : Layer)
  | vsync | te | fifoUf | axiErr | errIrq | rxTimeout | rxErr | btaFail | cmdDone | rxDone
  deriving DecidableEq, Repr

/-- A layer's number (R78). -/
def layerNo (l : Layer) : Nat :=
  match l with
  | .fg => 0
  | .bg => 1
  | .wb => 2
  | .sp => 3

/-- The bit of a cause (R70, R442). -/
def Cause.bit (c : Cause) : Nat :=
  match c with
  | .frameDone l => layerNo l
  | .vsync => 4
  | .te => 5
  | .fifoUf => 6
  | .axiErr => 7
  | .errIrq => 8
  | .rxTimeout => 9
  | .rxErr => 10
  | .btaFail => 11
  | .cmdDone => 12
  | .rxDone => 13

/-- The classes of causes (R442). -/
inductive CauseClass where
  | completion | informational | recoverable | fatal | transport
  deriving DecidableEq, Repr

/-- The class of a cause (R442). -/
def Cause.cls (c : Cause) : CauseClass :=
  match c with
  | .frameDone _ | .cmdDone | .rxDone => .completion
  | .vsync | .te => .informational
  | .fifoUf => .recoverable
  | .axiErr | .errIrq => .fatal
  | .rxTimeout | .rxErr | .btaFail => .transport

/-- The bit of `DCH_l`, the channel of the layer's last completed frame (R70). -/
def doneChannelBit (l : Layer) : Nat := 16 + layerNo l

/-- Status bits 0 to 13: those a write can clear (R71). -/
def w1cMask : Word := 0x00003FFF#32

/-- Bits 0 to 8: the sources that have an enable and can assert the line (R73). -/
def enableMask : Word := 0x000001FF#32

/-- The status bits that exist: 0 to 13 and 16 to 19 (R70). -/
def statusMask : Word := 0x000F3FFF#32

/-- The DSI error flags, bits 9 to 11 (R271, R272). -/
def dsiErrorMask : Word := 0x00000E00#32

/-- The DSI bits a PHY reset clears, bits 9 to 13 (R230). -/
def dsiStatusMask : Word := 0x00003E00#32

/-- The LCDC bits a panel-domain reset clears, bits 0 to 8 and 16 to 19 (R421). -/
def lcdcStatusMask : Word := 0x000F01FF#32

/-- The fatal causes, bits 7 and 8 (R416, R452). -/
def fatalMask : Word := 0x00000180#32

/-- `W1C(irq.status, m)`: each of bits 0 to 13 that is 1 in `m` is cleared (R26, R71). -/
def w1c (status m : Word) : Word := status &&& ~~~(m &&& w1cMask)

/-- `is_te` of a status snapshot (R270). -/
def isTe (status : Word) : Bool := status.getLsbD 5

/-- `is_error` of a status snapshot, for the DSI: bits 9 to 11 (R271). -/
def isDsiError (status : Word) : Bool := status.getLsbD 9 || status.getLsbD 10 || status.getLsbD 11

/-- Whether a cause is recorded in the status word. -/
def State.has (s : State) (c : Cause) : Bool := s.irq.status.getLsbD c.bit

/-- The status word with a bit written. -/
def State.putStatus (s : State) (i : Nat) (b : Bool) : State :=
  { s with irq := { s.irq with status := putBit s.irq.status i b } }

/-- Record a cause. -/
def State.setCause (s : State) (c : Cause) : State := s.putStatus c.bit true

/-- Clear a cause in hardware (R72). -/
def State.clearCause (s : State) (c : Cause) : State := s.putStatus c.bit false

/-- Clear status bits by write-1-to-clear (R71). -/
def State.clearStatus (s : State) (m : Word) : State := { s with irq := { s.irq with status := w1c s.irq.status m } }

/-- The enable word replaced. -/
def State.putEnable (s : State) (w : Word) : State := { s with irq := { s.irq with enable := w } }

/-- `IRQ`: the interrupt line, level-sensitive (R73, R450). -/
def State.irqLine (s : State) : Bool := s.irq.status &&& s.irq.enable &&& enableMask != 0#32

end Sys2Proof.Machine
end

