-- ==== Sys2Proof/Machine/Memory.lean ====
section
/-! DEFINITION. Framebuffer memory (20_memory.md R130, R135, R142 to R144): 32-bit byte addresses; a list of known
bytes in rising order of address. -/

namespace Sys2Proof.Machine

/-- The canonical form: addresses strictly rising, and inside the 32-bit address space (R135). An unlisted
address reads as no known value, so no entry equals what an unlisted address reads as. -/
abbrev Memory.wf (m : Memory) : Prop :=
  m.Pairwise (fun x y => x.1 < y.1) ∧ ∀ c ∈ m, c.1 < 2 ^ Config.addrW

/-- The byte at an address: `none` when nobody knows it (never written, or any value: R144). -/
def Memory.read (m : Memory) (a : Nat) : Option Byte :=
  match m with
  | [] => none
  | (x, b) :: rest => if x = a then some b else Memory.read rest a

/-- Write one byte, keeping the canonical form. -/
def Memory.write (m : Memory) (a : Nat) (b : Byte) : Memory :=
  match m with
  | [] => [(a, b)]
  | (x, v) :: rest =>
    if a < x then (a, b) :: (x, v) :: rest
    else if a = x then (a, b) :: rest
    else (x, v) :: Memory.write rest a b

/-- Make every byte of `[lo, hi)` hold any value: no byte of it is known any more (R144). -/
def Memory.forget (m : Memory) (lo hi : Nat) : Memory := m.filter (fun c => !(decide (lo ≤ c.1) && decide (c.1 < hi)))

/-- The known bytes of `[lo, hi)` (R143). -/
def Memory.slice (m : Memory) (lo hi : Nat) : Memory := m.filter (fun c => decide (lo ≤ c.1) && decide (c.1 < hi))

/-- `MemRead(addr, n)` (R27): the `n` bytes from `addr`, each known or not. -/
def Memory.readBytes (m : Memory) (a n : Nat) : List (Option Byte) := (List.range n).map (fun i => m.read (a + i))

/-- `MemWrite(addr, n, v)` (R27): bytes from `addr` upwards. -/
def Memory.writeBytes (m : Memory) (a : Nat) (bs : List Byte) : Memory :=
  match bs with
  | [] => m
  | b :: rest => Memory.writeBytes (m.write a b) (a + 1) rest

end Sys2Proof.Machine
end

