-- ==== Sys2Proof/Machine/Operands.lean ====
section
/-! DEFINITION. Operand forms: the fields of operand words (30_encoding.md R172), layer and channel indexing, and
the pseudo-operations (R177). -/

namespace Sys2Proof.Machine

/-- `layer[l]`. -/
def PerLayer.get {α : Type} (p : PerLayer α) (l : Layer) : α :=
  match l with
  | .fg => p.fg
  | .bg => p.bg
  | .wb => p.wb
  | .sp => p.sp

/-- `layer[l] <- v`. -/
def PerLayer.set {α : Type} (p : PerLayer α) (l : Layer) (v : α) : PerLayer α :=
  match l with
  | .fg => { p with fg := v }
  | .bg => { p with bg := v }
  | .wb => { p with wb := v }
  | .sp => { p with sp := v }

/-- The value at each layer given by a function of the layer. -/
def PerLayer.tabulate {α : Type} (f : Layer → α) : PerLayer α := { fg := f .fg, bg := f .bg, wb := f .wb, sp := f .sp }

/-- The other channel, `1 - ch` (R82). -/
def otherChannel (c : Channel) : Channel :=
  match c with
  | .ch0 => .ch1
  | .ch1 => .ch0

/-- A channel as a status bit. -/
def channelBit (c : Channel) : Bool :=
  match c with
  | .ch0 => false
  | .ch1 => true

/-- A status bit as a channel. -/
def channelOfBit (b : Bool) : Channel := if b then .ch1 else .ch0

/-- `layer[l].addr[c]` (R81). -/
def LayerState.addr (L : LayerState) (c : Channel) : Option Word :=
  match c with
  | .ch0 => L.addr0
  | .ch1 => L.addr1

/-- `layer[l].addr[c] <- a` (R81). -/
def LayerState.putAddr (L : LayerState) (c : Channel) (a : Word) : LayerState :=
  match c with
  | .ch0 => { L with addr0 := some a }
  | .ch1 => { L with addr1 := some a }

/-- `act.en`, false while the active configuration is unset (R80). -/
def LayerState.actEn (L : LayerState) : Bool :=
  match L.act with
  | none => false
  | some c => c.en

/-- The lane counts `dsi.init` accepts (R21, R230). -/
def LaneCount.ofBits (n : BitVec 4) : Option LaneCount :=
  if n = 1#4 then some .one else if n = 2#4 then some .two else none

/-- A geometry operand word: one component in `[11:0]`, the other in `[27:16]` (R172, R346). -/
def geoOperand (w : Word) : GeoPair := { fst := w.extractLsb' 0 12, snd := w.extractLsb' 16 12 }

/-- A colour operand word: R in `[23:16]`, G in `[15:8]`, B in `[7:0]` (R172, R344). -/
def rgbOperand (w : Word) : Rgb := { r := w.extractLsb' 16 8, g := w.extractLsb' 8 8, b := w.extractLsb' 0 8 }

/-- `trunc_W_TIM` of a timing operand word (R172, R320). -/
def timOperand (w : Word) : BitVec Config.wTim := w.setWidth Config.wTim

/-- The thirteen counts as the register layer holds them (R320). -/
def timOperands (t : TimingCounts) : TimingRegs :=
  { hTotal := timOperand t.hTotal, hActive := timOperand t.hActive, hFp := timOperand t.hFp, hBp := timOperand t.hBp,
    hSyncStart := timOperand t.hSyncStart, hSyncEnd := timOperand t.hSyncEnd, vTotal := timOperand t.vTotal,
    vActive := timOperand t.vActive, vFp := timOperand t.vFp, vBp := timOperand t.vBp,
    vSyncStart := timOperand t.vSyncStart, vSyncEnd := timOperand t.vSyncEnd,
    standbyVsync := timOperand t.standbyVsync }

/-- `trunc_W_SPC(h_active * v_active)` (R28, R320). -/
def smartPixels (r : TimingRegs) : BitVec Config.wSpc := BitVec.ofNat Config.wSpc (r.hActive.toNat * r.vActive.toNat)

/-- The hardware code a tag stands for on a layer, if any: a tag at or above `N_TAGS` has none (R178, R342). -/
def formatOperand (l : Layer) (tag : BitVec 16) : Option (BitVec Config.wFmt) :=
  if tag.toNat < Config.nTags then Config.formatCode l tag.toNat else none

/-- `DISPLAY_MEM(addr)` (R20, R135): the address lies in one of the platform's windows. -/
def displayMem (ws : List Window) (a : Word) : Bool :=
  ws.any (fun w => decide (w.first.toNat ≤ a.toNat) && decide (a.toNat ≤ w.last.toNat))

/-- `ValidFb(addr)` (R352). -/
def validFb (ws : List Window) (a : Word) : Bool := displayMem ws a && decide (a.toNat % Config.fbAlign = 0)

/-- Whether a register access is one aligned 32-bit word (R132). -/
def wordAccess (a : Word) (bytes : Nat) : Bool := decide (bytes = 4) && decide (a.toNat % 4 = 0)

/-- The pseudo-operations (R177). -/
inductive Pseudo where
  | dcsShort0 (cmd : Byte)
  | dcsShort1 (cmd p : Byte)
  | clearAllErrors
  | flip (l : Layer) (c : Channel) (addr : Word)
  | noScale (l : Layer) (pos size : Word)
  | maskAll
  deriving DecidableEq, Repr

/-- What a pseudo-operation expands to (R177). -/
def Pseudo.expand (p : Pseudo) : List Instr :=
  match p with
  | .dcsShort0 cmd => [.dsiSend cmd []]
  | .dcsShort1 cmd p => [.dsiSend cmd [p]]
  | .clearAllErrors => [.dsiClearError 0x00000E00#32]
  | .flip l c addr => [.lcdcWriteAddr l c addr, .lcdcStart]
  | .noScale l pos size => [.lcdcSetGeometry l pos size size]
  | .maskAll => [.irqDisable]

end Sys2Proof.Machine
end

