-- ==== Sys2Proof/Machine/Packet.lean ====
section
/-! DEFINITION. DSI packets on the link (30_encoding.md R180 to R190, 40_dsi_link.md R234): data identifier, header
ECC, checksum, wire bytes, and the reading of wire bytes back into a packet. -/

namespace Sys2Proof.Machine

/-- The data identifier: virtual channel 0 in bits 7:6, data type in bits 5:0 (R180, D77). -/
def dataId (dt : BitVec 6) : Byte := 0#2 ++ dt

/-- The exclusive-or of the header bits listed. -/
def xorBits (d : BitVec 24) (is : List Nat) : Bool := is.foldl (fun acc i => acc ^^ d.getLsbD i) false

/-- `ECC24`: the header error-correction byte of the header bytes `B0`, `B1`, `B2` (R183). -/
def ecc24 (b0 b1 b2 : Byte) : Byte :=
  let d : BitVec 24 := b2 ++ (b1 ++ b0)
  BitVec.ofBoolListLE [
    xorBits d [0, 1, 2, 4, 5, 7, 10, 11, 13, 16, 20, 21, 22, 23],
    xorBits d [0, 1, 3, 4, 6, 8, 10, 12, 14, 17, 20, 21, 22, 23],
    xorBits d [0, 2, 3, 5, 6, 9, 11, 12, 15, 18, 20, 21, 22],
    xorBits d [1, 2, 3, 7, 8, 9, 13, 14, 15, 19, 20, 21, 23],
    xorBits d [4, 5, 6, 7, 8, 9, 16, 17, 18, 19, 20, 22, 23],
    xorBits d [10, 11, 12, 13, 14, 15, 16, 17, 18, 19, 21, 22, 23],
    false, false]

/-- One shift of the checksum register (R184). -/
def crcShift (c : BitVec 16) : BitVec 16 := if c.getLsbD 0 then (c >>> 1) ^^^ 0x8408#16 else c >>> 1

/-- The checksum register after one byte, least significant bit first (R184). -/
def crcByte (c : BitVec 16) (b : Byte) : BitVec 16 :=
  crcShift (crcShift (crcShift (crcShift (crcShift (crcShift (crcShift (crcShift (c ^^^ b.setWidth 16))))))))

/-- `CRC16` (R184): initial value 0xFFFF, no final exclusive-or. -/
def crc16 (bs : List Byte) : BitVec 16 := bs.foldl crcByte 0xFFFF#16

/-- The wire bytes of a packet (R181, R182, R234). The word count is the payload length in 16 bits. -/
def Packet.wireBytes (p : Packet) : List Byte :=
  match p with
  | .short dt d0 d1 => [dataId dt, d0, d1, ecc24 (dataId dt) d0 d1]
  | .long dt pl =>
    let wc : BitVec 16 := BitVec.ofNat 16 pl.length
    let crc := crc16 pl
    [dataId dt, wc.extractLsb' 0 8, wc.extractLsb' 8 8, ecc24 (dataId dt) (wc.extractLsb' 0 8) (wc.extractLsb' 8 8)]
      ++ pl ++ [crc.extractLsb' 0 8, crc.extractLsb' 8 8]

/-- A packet's payload fits its word count (R234: length below 2^16). -/
def Packet.fits (p : Packet) : Bool :=
  match p with
  | .short _ _ _ => true
  | .long _ pl => decide (pl.length < 2 ^ 16)

/-- The direction of a packet; a data type is read by it (R185). -/
inductive Direction where
  | forward | reverse
  deriving DecidableEq, Repr

/-- The data types of long packets (R190): the long write and long read response types, and forward the null,
blanking and pixel-stream types. Every other type is short. -/
def isLongType (dir : Direction) (dt : BitVec 6) : Bool :=
  match dir with
  | .forward => dt ∈ [0x29#6, 0x39#6, 0x1A#6, 0x1C#6, 0x09#6, 0x19#6, 0x0E#6, 0x1E#6, 0x2E#6, 0x3E#6]
  | .reverse => dt ∈ [0x29#6, 0x39#6, 0x1A#6, 0x1C#6]

/-- Read one packet from wire bytes, checking the header ECC, the word count and the checksum (R181 to R184,
R190). -/
def Packet.ofWire (dir : Direction) (bs : List Byte) : Option Packet :=
  match bs with
  | di :: x :: y :: e :: rest =>
    let dt := di.extractLsb' 0 6
    if e ≠ ecc24 di x y then none
    else if isLongType dir dt then
      let wc : BitVec 16 := y ++ x
      let pl := rest.take wc.toNat
      if pl.length = wc.toNat ∧ rest.drop wc.toNat = [(crc16 pl).extractLsb' 0 8, (crc16 pl).extractLsb' 8 8] then
        some (.long dt pl)
      else none
    else if rest = [] then some (.short dt x y) else none
  | _ => none

/-! ## Data types (R185, R236, R248) -/

/-- DCS short write, no parameter. -/
def dtDcsShort0 : BitVec 6 := 0x05#6
/-- DCS short write, one parameter. -/
def dtDcsShort1 : BitVec 6 := 0x15#6
/-- DCS long write. -/
def dtDcsLong : BitVec 6 := 0x39#6
/-- DCS read, no parameter. -/
def dtDcsRead : BitVec 6 := 0x06#6

/-- What a data type stands for (R185). -/
inductive DataType where
  | dcsShortWrite0 | dcsShortWrite1 | dcsLongWrite | dcsRead
  | ackErrorReport | genericShortRead1 | genericShortRead2 | dcsShortRead1 | dcsShortRead2 | genericLongRead
  | dcsLongRead
  | vSyncStart | vSyncEnd | hSyncStart | hSyncEnd | eotp | null | blanking
  | genericShortWrite0 | genericShortWrite1 | genericShortWrite2 | genericRead0 | genericRead1 | genericRead2
  | genericLongWrite | setMaxReturnSize | pixels16 | pixels18 | pixelsLoose18 | pixels24
  deriving DecidableEq, Repr

/-- The meaning of a data type value, which depends on the direction of the packet (R185); `none` for a value the
list does not name. -/
def dataTypeOf (dir : Direction) (dt : BitVec 6) : Option DataType :=
  match dir with
  | .forward =>
    match dt with
    | 0x05#6 => some .dcsShortWrite0
    | 0x15#6 => some .dcsShortWrite1
    | 0x39#6 => some .dcsLongWrite
    | 0x06#6 => some .dcsRead
    | 0x01#6 => some .vSyncStart
    | 0x11#6 => some .vSyncEnd
    | 0x21#6 => some .hSyncStart
    | 0x31#6 => some .hSyncEnd
    | 0x08#6 => some .eotp
    | 0x09#6 => some .null
    | 0x19#6 => some .blanking
    | 0x03#6 => some .genericShortWrite0
    | 0x13#6 => some .genericShortWrite1
    | 0x23#6 => some .genericShortWrite2
    | 0x04#6 => some .genericRead0
    | 0x14#6 => some .genericRead1
    | 0x24#6 => some .genericRead2
    | 0x29#6 => some .genericLongWrite
    | 0x37#6 => some .setMaxReturnSize
    | 0x0E#6 => some .pixels16
    | 0x1E#6 => some .pixels18
    | 0x2E#6 => some .pixelsLoose18
    | 0x3E#6 => some .pixels24
    | _ => none
  | .reverse =>
    match dt with
    | 0x02#6 => some .ackErrorReport
    | 0x11#6 => some .genericShortRead1
    | 0x12#6 => some .genericShortRead2
    | 0x21#6 => some .dcsShortRead1
    | 0x22#6 => some .dcsShortRead2
    | 0x1A#6 => some .genericLongRead
    | 0x1C#6 => some .dcsLongRead
    | _ => none

/-! ## Escape-mode entry commands and lane line states (R186, R187), informative: the link is stepped at packet
granularity, and no step of the machine reads these -/

/-- The escape-mode entry commands of the D-PHY (R186). -/
inductive EscapeCmd where
  | lpdt | ulps | resetTrigger | teTrigger | ackTrigger | undefined1 | undefined2 | undefined3
  deriving DecidableEq, Repr

/-- The entry command's bits, first bit transmitted leftmost (R186). -/
def EscapeCmd.bits (e : EscapeCmd) : List Bool :=
  match e with
  | .lpdt => [true, true, true, false, false, false, false, true]
  | .ulps => [false, false, false, true, true, true, true, false]
  | .resetTrigger => [false, true, true, false, false, false, true, false]
  | .teTrigger => [false, true, false, true, true, true, false, true]
  | .ackTrigger => [false, false, true, false, false, false, false, true]
  | .undefined1 => [true, false, false, true, true, true, true, true]
  | .undefined2 => [true, true, false, true, true, true, true, false]
  | .undefined3 => [true, false, true, false, false, false, false, false]

/-- The states of a pair of lane lines (R187). -/
inductive LpState where
  | lp00 | lp01 | lp10 | lp11
  deriving DecidableEq, Repr

/-- Escape entry, before the eight bits of the entry command (R187). -/
def escapeEntryStates : List LpState := [.lp11, .lp10, .lp00, .lp01, .lp00]
/-- Escape exit (R187). -/
def escapeExitStates : List LpState := [.lp10, .lp11]
/-- The bus-turnaround request, after which the other side drives the lane (R187). -/
def turnaroundStates : List LpState := [.lp11, .lp10, .lp00, .lp10, .lp00]
/-- Clock-lane ULPS entry (R187). -/
def clockUlpsEntryStates : List LpState := [.lp11, .lp10, .lp00]
/-- ULPS exit of either lane: Mark-1, then the stop state (R187). -/
def ulpsExitStates : List LpState := [.lp10, .lp11]

/-! ## Acknowledge-and-error report (R188): the engine does not interpret it -/

/-- The named bits of an acknowledge-and-error report, from bit 0 (R188); bit 14 is reserved. -/
inductive AckBit where
  | sot | sotSync | eotSync | escEntry | lpSync | timeout | falseControl | contention | eccSingle | eccMulti
  | checksum | dataType | vcInvalid | txLength | reserved | protocol
  deriving DecidableEq, Repr

/-- The bit position of a report bit (R188). -/
def AckBit.index (b : AckBit) : Nat :=
  match b with
  | .sot => 0
  | .sotSync => 1
  | .eotSync => 2
  | .escEntry => 3
  | .lpSync => 4
  | .timeout => 5
  | .falseControl => 6
  | .contention => 7
  | .eccSingle => 8
  | .eccMulti => 9
  | .checksum => 10
  | .dataType => 11
  | .vcInvalid => 12
  | .txLength => 13
  | .reserved => 14
  | .protocol => 15

/-- Whether a report word has a bit set (R188). -/
def ackReports (report : BitVec 16) (b : AckBit) : Bool := report.getLsbD b.index

end Sys2Proof.Machine
end

