-- ==== Sys2Proof/Machine/Ops.lean ====
section
/-! DEFINITION. The shared operations: how an operation ends, the logs, the checks of command traffic, the two data
ports, link jobs, layer writes, the TE pulse, the end of a frame, and the entry to and return from the unified
handler (60_exceptions.md R450 to R458), which is this hardware's exception. -/

namespace Sys2Proof.Machine

/-! ## Outcomes of an operation (R10) -/

/-- `return r` (R27). -/
def State.finish (s : State) (r : Result) : State := { s with ret := .returned r }

/-- `hold` (R27): the operation is not enabled yet; only the record of its outcome changes. -/
def State.hold (s : State) : State := { s with ret := .held }

/-- `raise Fault(code)` (R27, R446): the state is marked faulted, for good; no agent steps after it. -/
def State.raise (s : State) (c : FaultCode) : State := { s with faulted := some c }

/-- `raise Fault(code)` inside a host operation. -/
def State.fail (s : State) (c : FaultCode) : State := { s.raise c with ret := .aborted }

/-! ## Logs (R27, R100) -/

/-- `emit(p)`. -/
def State.emit (s : State) (e : WireEvent) : State := { s with logs := { s.logs with wire := s.logs.wire ++ [e] } }

/-- `log(diag, x)`. -/
def State.logDiag (s : State) (e : DiagEvent) : State := { s with logs := { s.logs with diag := s.logs.diag ++ [e] } }

/-- `log(events, x)`. -/
def State.logEvent (s : State) (e : CallbackEvent) : State :=
  { s with logs := { s.logs with events := s.logs.events ++ [e] } }

/-- `log(frames, r)`. -/
def State.logFrame (s : State) (r : FrameRecord) : State :=
  { s with logs := { s.logs with frames := s.logs.frames ++ [r] } }

/-! ## Checks of command traffic (R231 to R233) -/

/-- `elapsed(t0)` (R27): the microseconds since tick `t0`. -/
def State.elapsed (s : State) (t0 : Nat) : Nat := s.now - t0

/-- `Settled()` (R231). -/
def State.settled (s : State) : Bool :=
  match s.dsi.settleFrom with
  | none => true
  | some t0 => decide (Config.tSettleUs ≤ s.elapsed t0)

/-- `UlpsChecks()` (R232): the first fault that applies. -/
def State.ulpsChecks (s : State) : Option FaultCode :=
  if !s.dsi.configured then some .notConfigured
  else if s.dsi.power = .off then some .dsiAsleep
  else if !s.settled then some .linkNotReady
  else none

/-- `CmdChecks()` (R232). -/
def State.cmdChecks (s : State) : Option FaultCode :=
  match s.ulpsChecks with
  | some c => some c
  | none => if s.link.ulps = .entered then some .linkNotReady else none

/-- `LaneFree()` (R233). -/
def State.laneFree (s : State) : Bool := s.link.job.isNone && decide (s.link.data = .stop)

/-! ## The two data ports (R137, R138) and link jobs (R67, R72) -/

/-- `RxPop()` (R137): the oldest byte of the RX FIFO. A pop of an empty FIFO returns a free value and changes
nothing of the block. -/
def rxPop (s : State) : Byte × State :=
  match s.link.rxFifo with
  | [] => (Config.freeByte s.draws, { s with draws := s.draws + 1 })
  | b :: rest => (b, { s with link := { s.link with rxFifo := rest } })

/-- `repeat k: RxPop()`, the bytes discarded (R247). -/
def rxDiscard (k : Nat) (s : State) : State :=
  match k with
  | 0 => s
  | n + 1 => rxDiscard n (rxPop s).2

/-- `WrArrayPush(w)` (R138). -/
def State.wrPush (s : State) (w : Word) : State := { s with link := { s.link with wrArray := s.link.wrArray ++ [w] } }

/-- `for w in ws: WrArrayPush(w)` (R235). -/
def State.wrPushAll (s : State) (ws : List Word) : State := ws.foldl State.wrPush s

/-- Start a link job (R67): the hardware clears `CMD_DONE`, and for a read also `RX_DONE` (R72). -/
def State.startJob (s : State) (j : Job) : State :=
  let s1 := s.clearCause .cmdDone
  let s2 := match j with
    | .txRead _ => s1.clearCause .rxDone
    | _ => s1
  { s2 with link := { s2.link with job := some j } }

/-- A link job ends: the lanes are in the given state and there is no job. -/
def State.endJob (s : State) (d : DataLane) : State := { s with link := { s.link with data := d, job := none } }

/-! ## Layers (R340, R341) -/

/-- Replace one layer. -/
def State.putLayer (s : State) (l : Layer) (L : LayerState) : State := { s with layers := s.layers.set l L }

/-- `Touch(l)` (R341). -/
def LayerState.touch (L : LayerState) : LayerState :=
  if L.phase = .disabled then { L with phase := .configuring } else L

/-- A register write of layer `l` (R341): its shadow configuration is rewritten and the layer touched. -/
def State.writeShadow (s : State) (l : Layer) (f : LayerCfg → LayerCfg) : State :=
  let L := s.layers.get l
  s.putLayer l { L with sh := f L.sh }.touch

/-! ## The TE pulse (R410) -/

/-- `TePulse()` (R410): record the edge and, when armed for TE, trigger one frame. -/
def State.tePulse (s : State) : State :=
  let s1 := s.setCause .te
  if s.frame.fsm = .armedHardwareTE then { s1 with frame := { s1.frame with valid := true } } else s1

/-! ## The frame in flight (R142 to R144, R406, R408) -/

/-- `Region(l)` (R142): from the scanned address, `act.pitch * act.size.h` bytes; empty while `act` is unset. -/
def LayerState.region (L : LayerState) (a : Word) : Nat × Nat :=
  match L.act with
  | none => (a.toNat, a.toNat)
  | some c => (a.toNat, a.toNat + c.pitch.toNat * c.size.snd.toNat)

/-- Whether an address lies in the region a frame scans for a layer. -/
def State.scans (s : State) (sc : Scan) (l : Layer) (a : Nat) : Bool :=
  match sc.layers.get l with
  | none => false
  | some e =>
    let r := (s.layers.get l).region e.addr
    decide (r.1 ≤ a) && decide (a < r.2)

/-- After a frame with WB in its scan set, every byte of `Region(WB)` holds any value (R144, R406). The region is that of
the address read at frame begin, even if `lcdc.write_addr` has rewritten the scanned channel since: DESIGN CHOICE, log
entry 27. -/
def State.forgetWb (s : State) (sc : Scan) : State :=
  match sc.layers.wb with
  | none => s
  | some e =>
    let r := s.layers.wb.region e.addr
    { s with mem := s.mem.forget r.1 r.2 }

/-- The frame record of the frame in flight (R408). -/
def State.frameRecord (s : State) (sc : Scan) (o : FrameOutcome) : FrameRecord :=
  { k := sc.k, mode := sc.mode, tim := sc.tim
    layers := PerLayer.tabulate (fun l =>
      (sc.layers.get l).map (fun e => { ch := e.ch, addr := e.addr, act := (s.layers.get l).act, bytes := e.bytes }))
    lost := sc.lost, corrupt := sc.corrupt, raced := sc.raced, outcome := o }

/-- The frame in flight is over (R407, R413, R414, R421): its one record is logged, no frame is in flight, and
what WB may have written is unknown. -/
def State.closeFrame (s : State) (sc : Scan) (o : FrameOutcome) : State :=
  let s1 := (s.logFrame (s.frameRecord sc o)).forgetWb sc
  { s1 with frame := { s1.frame with scan := none } }

/-- The frame in flight, if any, is over. -/
def State.endInFlight (s : State) (o : FrameOutcome) : State :=
  match s.frame.scan with
  | none => s
  | some sc => s.closeFrame sc o

/-- The data lanes return to the stop state (R407, R413, R414, R421). -/
def State.stopLanes (s : State) : State := { s with link := { s.link with data := .stop } }

/-! ## The unified handler (R451 to R457) -/

/-- `Ops(id, l, ch)`: the host program's operations for a frame-done callback (R455). -/
def HostProgram.frameCallback (p : HostProgram) (id : CallbackId) (l : Layer) (ch : Channel) : List Instr :=
  match p.frameOps.find? (fun e => e.id == id && e.layer == l && e.ch == ch) with
  | some e => e.ops
  | none => []

/-- `Ops(id, kind)`: the host program's operations for the fault callback (R455). -/
def HostProgram.faultCallback (p : HostProgram) (id : CallbackId) (k : ErrKind) : List Instr :=
  match p.faultOps.find? (fun e => e.id == id && e.kind == k) with
  | some e => e.ops
  | none => []

/-- `work <- work ++ items`. -/
def State.pushWork (s : State) (items : List Action) : State := { s with isr := { s.isr with work := s.isr.work ++ items } }

/-- R454: the fatal causes reported are recorded and their enables cleared; the status bits stay. -/
def State.maskFatal (s : State) (fatal : Word) : State :=
  { s with irq :=
      { s.irq with fatalMasked := s.irq.fatalMasked ||| fatal.extractLsb' 7 2, enable := s.irq.enable &&& ~~~fatal } }

/-- The fault callback, if any, is invoked (R452, R455). -/
def State.queueFault (s : State) (kind : ErrKind) : State :=
  match s.cb.fault with
  | none => s
  | some id => (s.logEvent (.faultCb kind)).pushWork ((s.prog.faultCallback id kind).map .op)

/-- R452 part 1, R454: the enabled fatal causes are reported and masked. -/
def handleFatal (fatal : Word) (s : State) : State :=
  if fatal = 0#32 then s
  else
    let kind : ErrKind := if fatal.getLsbD 7 then .axiBus else .errIrq
    ((s.logDiag (.fatalError kind)).maskFatal fatal).queueFault kind

/-- R452 part 2: an enabled underflow is logged and cleared. -/
def handleUnderflow (pending : Word) (s : State) : State :=
  if pending.getLsbD 6 then (s.logDiag .lostFrame).clearStatus (1#32 <<< 6) else s

/-- R452 part 3, for one informational cause (TE, VSYNC): cleared if enabled. -/
def handleInfo (pending : Word) (i : Nat) (s : State) : State :=
  if pending.getLsbD i then s.clearStatus (1#32 <<< i) else s

/-- The frame-done callback of a layer, if any, is invoked (R452, R455). -/
def State.queueDone (s : State) (l : Layer) (ch : Channel) : State :=
  match s.cb.frame.get l with
  | none => s
  | some id => (s.logEvent (.frameDoneCb l ch)).pushWork ((s.prog.frameCallback id l ch).map .op)

/-- R452 part 4 for one layer: an enabled frame-done is cleared, and its callback, if any, is invoked with the
channel in the snapshot. -/
def handleDone (snapshot pending : Word) (l : Layer) (s : State) : State :=
  if pending.getLsbD (layerNo l) then
    (s.clearStatus (1#32 <<< layerNo l)).queueDone l (channelOfBit (snapshot.getLsbD (doneChannelBit l)))
  else s

/-- R452, R456: some enabled frame-done belongs to a layer with no callback. -/
def needDefault (pending : Word) (s : State) : Bool :=
  [Layer.fg, .bg, .wb, .sp].any (fun l => pending.getLsbD (layerNo l) && (s.cb.frame.get l).isNone)

/-- The default re-start is queued if some enabled frame-done has no callback (R452, R456). -/
def queueDefault (need : Bool) (s : State) : State := if need then s.pushWork [.defaultStart] else s

/-- The handler is running, with no work yet (R451). -/
def State.enterHandler (s : State) : State := { s with isr := { active := true, work := [] } }

/-- Handler entry and body (R451, R452): the status word and the enable word are read once; then fatal, underflow,
TE, VSYNC, and frame-done in layer order. -/
def handlerEntry (s : State) : State :=
  let snapshot := s.irq.status
  let pending := s.irq.status &&& s.irq.enable
  let s1 := handleFatal (pending &&& fatalMask) s.enterHandler
  let s2 := handleInfo pending 4 (handleInfo pending 5 (handleUnderflow pending s1))
  let s3 := handleDone snapshot pending .sp (handleDone snapshot pending .wb
    (handleDone snapshot pending .bg (handleDone snapshot pending .fg s2)))
  queueDefault (needDefault pending s) s3

/-- Handler return (R457): nothing else is restored. -/
def handlerReturn (s : State) : State := { s with isr := { s.isr with active := false } }

end Sys2Proof.Machine
end

