-- ==== Sys2Proof/Machine/Dsi.lean ====
section
/-! DEFINITION. The DSI family (40_dsi_link.md): the twelve `dsi.*` operations, the later HOST steps of the blocking
ones, the LINK steps and the ENV receive steps. -/

namespace Sys2Proof.Machine

/-! ## Initialisation (R230) -/

/-- The PHY reset inside a successful `dsi.init` (R230, R105 column INIT). -/
def State.phyReset (s : State) : State :=
  { s with
    link := { s.link with data := .stop, clk := .lp, job := none, ulps := .exited, rxFifo := [], rxSent := [],
                          wrArray := [] }
    irq := { s.irq with status := s.irq.status &&& ~~~dsiStatusMask } }

/-- The programming step of a successful `dsi.init` (R230, R321). -/
def Dsi.program (d : Dsi) (lanes : LaneCount) (mode : DisplayMode) (bitClock : Word) (div : Nat) : Dsi :=
  let d1 : Dsi :=
    { d with configured := true, mode := some mode, lanes := some lanes, pixDiv := BitVec.ofNat 5 div,
             phy := Config.phyTiming bitClock Config.phyGen, teEdge := some Config.teEdge }
  match mode with
  | .command => d1
  | .video => { d1 with videoPktLen := Config.videoPktLen, lpHsa := false, lpHbp := false, eotp := false }

/-- `dsi.init` (R230). -/
def dsiInit (lanes : BitVec 4) (mode : DisplayMode) (bitClock pixelClock : Word) (s : State) : State :=
  if s.link.job.isSome then s.hold
  else if s.dsi.power = .off then s.fail .dsiAsleep
  else if s.frame.fsm = .scanning then s.fail .initWhileScanning
  else
    match LaneCount.ofBits lanes with
    | none => s.finish .invalidConfig
    | some n =>
      if pixelClock = 0#32 then s.finish .invalidConfig
      else if Config.pixDivMax < Config.pixDiv bitClock pixelClock then s.finish .invalidConfig
      else
        let s1 := s.phyReset
        let s2 : State := { s1 with dsi := s1.dsi.program n mode bitClock (Config.pixDiv bitClock pixelClock) }
        s2.finish .ok

def execDsiInit (lanes : BitVec 4) (mode : DisplayMode) (bitClock pixelClock : Word) (s : State) :
    Host.Outcome State Fault Refusal :=
  .next (dsiInit lanes mode bitClock pixelClock s)

/-! ## LP command send (R235) -/

/-- `dsi.send` (R235): 0 parameters, short 0x05; 1, short 0x15; 2 or more, long 0x39 through the write array
(C1, D14). -/
def dsiSend (cmd : Byte) (params : List Byte) (s : State) : State :=
  match s.cmdChecks with
  | some c => s.fail c
  | none =>
    if !s.laneFree then s.hold
    else
      match params with
      | [] => (s.startJob (.txPkt (.short dtDcsShort0 cmd 0#8))).finish .ok
      | [p] => (s.startJob (.txPkt (.short dtDcsShort1 cmd p))).finish .ok
      | _ :: _ :: _ =>
        if Config.longMax < params.length + 1 then s.fail .longTooBig
        else
          ((s.wrPushAll (packLe (cmd :: params))).startJob (.txPkt (.long dtDcsLong (cmd :: params)))).finish .ok

def execDsiSend (cmd : Byte) (params : List Byte) (s : State) : Host.Outcome State Fault Refusal :=
  .next (dsiSend cmd params s)

/-! ## Read with bus-turnaround (R245 to R248) -/

/-- `if RX_FLUSH_ON_ISSUE: rx.fifo <- []` (R245, D17). -/
def State.flushOnIssue (s : State) : State :=
  { s with link := { s.link with rxFifo := if Config.rxFlushOnIssue then [] else s.link.rxFifo } }

/-- `dsi.read`, the issue step (R245). -/
def dsiRead (cmd len : Byte) (s : State) : State :=
  if s.isr.active then s.fail .blockingInIsr
  else
    match s.cmdChecks with
    | some c => s.fail c
    | none =>
      if !s.laneFree then s.hold
      else
        { s.flushOnIssue.startJob (.txRead (.short dtDcsRead cmd 0#8)) with
          phase := .reading cmd len s.now [] .poll, ret := .waiting }

def execDsiRead (cmd len : Byte) (s : State) : Host.Outcome State Fault Refusal := .next (dsiRead cmd len s)

/-- A blocking operation returns: `phase <- Ready; return r`. -/
def State.returnFromWait (s : State) (r : Result) : State := { s with phase := .ready, ret := .returned r }

/-- One poll of a read (R246). When nothing is to be done it changes nothing: the spin holds. -/
def readPoll (cmd len : Byte) (t0 : Nat) (buf : List Byte) (s : State) : State :=
  let cap := 4 + len.toNat
  if s.has .rxTimeout || s.has .rxErr || s.has .btaFail then s.returnFromWait (.rx .transport)
  else if s.link.rxFifo ≠ [] ∧ buf.length < cap then
    { (rxPop s).2 with phase := .reading cmd len t0 (buf ++ [(rxPop s).1]) .poll }
  else if s.has .rxDone ∧ (s.link.rxFifo = [] ∨ cap ≤ buf.length) then
    { s with phase := .reading cmd len t0 buf .drain }
  else if Config.tRxUs < s.elapsed t0 then s.returnFromWait (.rx .transport)
  else s

/-- `Demux(buf, len)` (R248). The virtual channel bits and the ECC byte are not examined. -/
def demux (buf : List Byte) (len : Nat) : RxResult :=
  match buf with
  | di :: d0 :: d1 :: _ :: payload =>
    match di.extractLsb' 0 6 with
    | 0x02#6 => .panelNack (d1 ++ d0)
    | 0x11#6 => .ok ([d0].take len)
    | 0x21#6 => .ok ([d0].take len)
    | 0x12#6 => .ok ([d0, d1].take len)
    | 0x22#6 => .ok ([d0, d1].take len)
    | 0x1A#6 =>
      let m := min (d1 ++ d0).toNat len
      if payload.length < m then .malformed else .ok (payload.take m)
    | 0x1C#6 =>
      let m := min (d1 ++ d0).toNat len
      if payload.length < m then .malformed else .ok (payload.take m)
    | _ => .malformed
  | _ => .malformed

/-- The result of a read whose drain discarded `k` bytes (R247, C9, D84): a demultiplexing error takes precedence
over the warning. -/
def drainResult (r : RxResult) (k : Nat) : RxResult :=
  match r with
  | .ok v => if 0 < k then .okWarn v k else .ok v
  | r => r

/-- Drain and finish a read (R247). -/
def readDrain (len : Byte) (buf : List Byte) (s : State) : State :=
  let k := s.link.rxFifo.length
  let s1 := rxDiscard k s
  let s2 := if 0 < k then s1.logDiag (.extraRxBytes k) else s1
  s2.returnFromWait (.rx (drainResult (demux buf len.toNat) k))

/-! ## ULPS (R260 to R267) -/

/-- `dsi.ulps_enter`, the issue step (R260). -/
def dsiUlpsEnter (s : State) : State :=
  if s.isr.active then s.fail .blockingInIsr
  else if s.link.ulps = .entered then s.finish .ok
  else
    match s.ulpsChecks with
    | some c => s.fail c
    | none =>
      if !s.laneFree then s.hold
      else
        let s1 := s.startJob .ulpsEnter
        { s1 with link := { s1.link with ulps := .entered }, phase := .ulpsEntering s.now, ret := .waiting }

def execDsiUlpsEnter (s : State) : Host.Outcome State Fault Refusal := .next (dsiUlpsEnter s)

/-- The wait for command-done (R261). -/
def ulpsEnterWait (t0 : Nat) (s : State) : State :=
  if s.has .cmdDone then s.returnFromWait .ok
  else if Config.tUlpsUs < s.elapsed t0 then (s.logDiag .ulpsEnterTimeout).returnFromWait .ulpsTimeout
  else s

/-- `dsi.ulps_exit`, the issue step (R265). -/
def dsiUlpsExit (s : State) : State :=
  if s.isr.active then s.fail .blockingInIsr
  else if s.link.ulps = .exited then s.finish .ok
  else
    match s.ulpsChecks with
    | some c => s.fail c
    | none =>
      if s.link.job.isSome then s.hold
      else
        let s1 := s.startJob .ulpsExit
        { s1 with link := { s1.link with ulps := .exited }, phase := .ulpsExiting s.now, ret := .waiting }

def execDsiUlpsExit (s : State) : Host.Outcome State Fault Refusal := .next (dsiUlpsExit s)

/-- The wake-up delay (R266). -/
def ulpsExitWait (t0 : Nat) (s : State) : State :=
  if Config.tWakeupUs ≤ s.elapsed t0 then s.returnFromWait .ok else s

/-! ## TE interrupt plumbing and classifiers (R268 to R272) -/

/-- `irq.enable[5] <- on; return Ok` (R268, R269). -/
def State.teirq (s : State) (on : Bool) : State := (s.putEnable (putBit s.irq.enable 5 on)).finish .ok

/-- `dsi.teirq_enable` (R268). -/
def execDsiTeirqEnable (s : State) : Host.Outcome State Fault Refusal := .next (s.teirq true)

/-- `dsi.teirq_disable` (R269). -/
def execDsiTeirqDisable (s : State) : Host.Outcome State Fault Refusal := .next (s.teirq false)

/-- `dsi.is_te` (R270). -/
def execDsiIsTe (status : Word) (s : State) : Host.Outcome State Fault Refusal :=
  .next (s.finish (.bool (isTe status)))

/-- `dsi.is_error` (R271). -/
def execDsiIsError (status : Word) (s : State) : Host.Outcome State Fault Refusal :=
  .next (s.finish (.bool (isDsiError status)))

/-- `dsi.clear_error` (R272). -/
def execDsiClearError (status : Word) (s : State) : Host.Outcome State Fault Refusal :=
  .next ((s.clearStatus (status &&& dsiErrorMask)).finish .ok)

/-! ## Sleep and wake-up (R275, R276) -/

/-- `dsi.sleep` (R275). -/
def dsiSleep (s : State) : State :=
  if s.dsi.power = .off then s.finish .ok
  else if s.link.job.isSome ∨ s.link.data = .lpTx ∨ s.link.data = .bta ∨ s.link.data = .hsFrame then s.hold
  else State.finish { s with dsi := { s.dsi with power := .off } } .ok

def execDsiSleep (s : State) : Host.Outcome State Fault Refusal := .next (dsiSleep s)

/-- `dsi.wakeup` (R276). -/
def dsiWakeup (s : State) : State :=
  if s.dsi.power = .on then s.finish .ok
  else State.finish { s with dsi := { s.dsi with power := .on, settleFrom := some s.now } } .ok

def execDsiWakeup (s : State) : Host.Outcome State Fault Refusal := .next (dsiWakeup s)

/-! ## LINK steps (R239 to R241, R262, R267) -/

/-- Begin an LP transmission (R239). -/
def linkBegin (s : State) : State := { s with link := { s.link with data := .lpTx } }

/-- Complete an LP write (R240). -/
def linkSent (p : Packet) (s : State) : State :=
  let s1 := (s.emit (.txLp p)).setCause .cmdDone
  { s1 with link := { s1.link with wrArray := [], data := .stop, job := none } }

/-- Send a read request and turn the bus around (R241). -/
def linkTurn (p : Packet) (s : State) : State :=
  let s1 := (s.emit (.txLp p)).emit .bta
  { s1 with link := { s1.link with data := .bta, rxSent := [] } }

/-- The ULPS entry sequence (R262). -/
def linkUlpsEnter (s : State) : State :=
  let s1 := if s.link.clk = .hs then s.emit .clkLp else s
  let s2 := ((s1.emit (.ulpsEntry .clock)).emit (.ulpsEntry .data)).setCause .cmdDone
  { s2 with link := { s2.link with clk := .ulps, data := .ulps, job := none } }

/-- The ULPS exit sequence (R267). -/
def linkUlpsExit (s : State) : State :=
  let s1 := ((s.emit (.ulpsExit .data)).emit (.ulpsExit .clock)).setCause .cmdDone
  { s1 with link := { s1.link with clk := .lp, data := .stop, job := none } }

/-- The LINK agent's step; it changes nothing when no LINK step is enabled. -/
def linkStep (s : State) : State :=
  match s.link.job, s.link.data with
  | some (.txPkt _), .stop => linkBegin s
  | some (.txRead _), .stop => linkBegin s
  | some (.txPkt p), .lpTx => linkSent p s
  | some (.txRead p), .lpTx => linkTurn p s
  | some .ulpsEnter, .stop => linkUlpsEnter s
  | some .ulpsExit, .ulps => linkUlpsExit s
  | _, _ => s

/-! ## ENV receive steps (R242 to R244), enabled only while `link.data = Bta` -/

/-- `RxByte(b)` (R242): with the FIFO full it holds; the environment's other choice, `RxError`, is a step of its
own. -/
def envRxByte (b : Byte) (s : State) : State :=
  if s.link.data = .bta ∧ s.link.rxFifo.length < Config.rxFifoDepth then
    { s with link := { s.link with rxFifo := s.link.rxFifo ++ [b], rxSent := s.link.rxSent ++ [b] } }
  else s

/-- `RxEnd()` (R242). -/
def envRxEnd (s : State) : State :=
  if s.link.data = .bta then ((s.emit (.rx s.link.rxSent)).setCause .rxDone).endJob .stop else s

/-- `RxTimeout()`, `BtaFail()` and `RxError()` (R243, R244): the cause is recorded and the job ends; bytes already in
the FIFO stay. -/
def envRxFail (c : Cause) (s : State) : State := if s.link.data = .bta then (s.setCause c).endJob .stop else s

end Sys2Proof.Machine
end

