-- ==== Sys2Proof/Machine/FrameSync.lean ====
section
/-! DEFINITION. The frame family (43_frame_sync.md): triggers, the SCAN steps that begin and end a frame, the ENV
events of a frame, the status and enable operations, the panel-domain reset, and callback registration. -/

namespace Sys2Proof.Machine

/-! ## Triggers (R401 to R403) -/

/-- `lcdc.start` (R401). -/
def startFrame (s : State) : State :=
  match s.frame.fsm with
  | .error _ => s.finish .paused
  | .scanning => s.fail .startWhileScanning
  | .armedSoftware => s.finish .ok
  | .armedHardwareTE => s.finish .ok
  | .idle | .frameDone =>
    match s.frame.arm with
    | .software => State.finish { s with frame := { s.frame with valid := true, fsm := .armedSoftware } } .ok
    | .te => State.finish { s with frame := { s.frame with fsm := .armedHardwareTE } } .ok

def execLcdcStart (s : State) : Host.Outcome State Fault Refusal := .next (startFrame s)

/-- `lcdc.arm_te` (R402). -/
def armTe (s : State) : State :=
  let f := { s.frame with arm := .te }
  if s.frame.fsm = .idle ∨ s.frame.fsm = .frameDone ∨ s.frame.fsm = .armedSoftware then
    State.finish { s with frame := { f with valid := false, fsm := .armedHardwareTE } } .ok
  else State.finish { s with frame := f } .ok

def execLcdcArmTe (s : State) : Host.Outcome State Fault Refusal := .next (armTe s)

/-- `lcdc.te_trigger` (R403). -/
def execLcdcTeTrigger (s : State) : Host.Outcome State Fault Refusal := .next (s.tePulse.finish .ok)

/-! ## Frame begin and frame end (R405, R407) -/

/-- `layer[l].act <- layer[l].sh` for every layer (R80, R405). -/
def State.latch (s : State) : State :=
  { s with layers := PerLayer.tabulate (fun l => { s.layers.get l with act := some (s.layers.get l).sh }) }

/-- One layer's place in the scan set (R91, R405): nothing if it is not enabled, a fault if the address of its
current channel is unset. -/
def scanEntry (L : LayerState) (mem : Memory) : Except FaultCode (Option ScanEntry) :=
  if L.actEn then
    match L.addr L.cur with
    | none => .error .unsetRead
    | some a => .ok (some { ch := L.cur, addr := a, bytes := mem.slice (L.region a).1 (L.region a).2 })
  else .ok none

/-- The scan set of the frame about to begin (R405). -/
def scanSet (s : State) : Except FaultCode (PerLayer (Option ScanEntry)) :=
  match scanEntry s.layers.fg s.mem, scanEntry s.layers.bg s.mem, scanEntry s.layers.wb s.mem,
      scanEntry s.layers.sp s.mem with
  | .ok f, .ok b, .ok w, .ok p => .ok { fg := f, bg := b, wb := w, sp := p }
  | .error c, _, _, _ => .error c
  | _, .error c, _, _ => .error c
  | _, _, .error c, _ => .error c
  | _, _, _, .error c => .error c

/-- A new frame's record of itself (R91). -/
def Scan.start (k : Nat) (mode : DisplayMode) (tim : Tim) (layers : PerLayer (Option ScanEntry)) : Scan :=
  { k := k, mode := mode, tim := tim, layers := layers, lost := false, corrupt := ⟨false, false, false, false⟩,
    raced := ⟨false, false, false, false⟩ }

/-- The frame machine and the lanes at a frame begin (R405). -/
def State.enterScan (s : State) (sc : Scan) : State :=
  { s with
    frame := { s.frame with scan := some sc, valid := false, fsm := .scanning }
    link := { s.link with data := .hsFrame, clk := .hs } }

/-- The frame is in flight (R405). WB may write its region from now on (R144). -/
def beginScan (mode : DisplayMode) (layers : PerLayer (Option ScanEntry)) (s : State) : State :=
  let k := s.logs.frames.length
  let sc := Scan.start k mode s.tim layers
  (((s.setCause .vsync).emit (.txHs k)).forgetWb sc).enterScan sc

/-- The checks and effect of a frame begin whose trigger is pending (R405). -/
def frameBegin (s : State) : State :=
  if s.link.job.isSome ∨ s.link.data ≠ .stop then s
  else if !s.dsi.configured then s.raise .notConfigured
  else if s.dsi.power = .off ∨ s.link.ulps = .entered ∨ s.settled = false then s.raise .linkNotReady
  else if !s.tim.set then s.raise .timingNotSet
  else
    match s.dsi.mode with
    | none => s.raise .unsetRead
    | some mode =>
      match scanSet s.latch with
      | .error c => s.latch.raise c
      | .ok layers => beginScan mode layers s.latch

/-- Frame end for one layer of the scan set (R407): frame-done is recorded with the completed channel, and the
current channel toggles. -/
def completeLayer (sc : Scan) (l : Layer) (s : State) : State :=
  match sc.layers.get l with
  | none => s
  | some e =>
    let s1 := (s.setCause (.frameDone l)).putStatus (doneChannelBit l) (channelBit e.ch)
    s1.putLayer l { s1.layers.get l with cur := otherChannel e.ch }

/-- Frame end for the four layers (R407). -/
def completeLayers (sc : Scan) (s : State) : State :=
  completeLayer sc .sp (completeLayer sc .wb (completeLayer sc .bg (completeLayer sc .fg s)))

/-- The frame machine after a frame end, by arm mode (R400, R407). -/
def State.rearm (s : State) : State :=
  { s with frame := { s.frame with fsm := if s.frame.arm = .te then .armedHardwareTE else .frameDone } }

/-- Frame end (R407). -/
def frameEnd (sc : Scan) (s : State) : State := ((completeLayers sc s).closeFrame sc .done).stopLanes.rearm

/-- The SCAN agent's step; it changes nothing when no SCAN step is enabled. -/
def scanStep (s : State) : State :=
  match s.frame.fsm with
  | .armedSoftware => if s.frame.valid then frameBegin s else s
  | .armedHardwareTE => if s.frame.valid then frameBegin s else s
  | .scanning =>
    match s.frame.scan with
    | some sc => frameEnd sc s
    | none => s
  | .idle => s
  | .frameDone => s
  | .error _ => s

/-! ## ENV events of a frame (R410 to R414) -/

/-- `TeEdge(pol)` (R410): an edge that is not of the selected polarity, or comes before the select is set, has no
effect. -/
def envTeEdge (pol : Edge) (s : State) : State := if s.dsi.teEdge = some pol then s.tePulse else s

/-- `Underflow` (R412). -/
def envUnderflow (s : State) : State :=
  if s.frame.fsm = .scanning then
    let s1 := s.setCause .fifoUf
    { s1 with frame := { s1.frame with scan := s1.frame.scan.map (fun sc => { sc with lost := true }) } }
  else s

/-- A fatal error aborts the frame in flight (R413, R414). -/
def abortFrame (k : ErrKind) (s : State) : State := (s.endInFlight (.aborted k)).stopLanes

/-- `AxiError` (R413). -/
def envAxiError (s : State) : State :=
  if s.frame.fsm = .scanning then
    let s1 := abortFrame .axiBus (s.setCause .axiErr)
    { s1 with frame := { s1.frame with valid := false, fsm := .error .axiBus } }
  else s

/-- `ErrIrq` (R414): in any state; an error already present keeps its first kind. -/
def envErrIrq (s : State) : State :=
  let s1 := s.setCause .errIrq
  let s2 := if s.frame.fsm = .scanning then abortFrame .errIrq s1 else s1
  match s.frame.fsm with
  | .error _ => s2
  | _ => { s2 with frame := { s2.frame with valid := false, fsm := .error .errIrq } }

/-- The frame producer writes a pixel byte (R139, R143): a write into a region in flight is a race, and a byte WB may
be writing is not known (R144). -/
def producerWrite (a : Word) (b : Byte) (s : State) : State :=
  match s.frame.scan with
  | none => { s with mem := s.mem.write a.toNat b }
  | some sc =>
    let hit := fun l => s.scans sc l a.toNat
    let sc1 := { sc with raced := PerLayer.tabulate (fun l => sc.raced.get l || hit l) }
    { s with
      frame := { s.frame with scan := some sc1 }
      mem := if hit .wb then s.mem.forget a.toNat (a.toNat + 1) else s.mem.write a.toNat b }

/-- Whether a frame's displayed content is defined (R408): it is done, was not lost, and no layer was corrupt or
raced. -/
def FrameRecord.contentDefined (r : FrameRecord) : Bool :=
  decide (r.outcome = .done) && !r.lost && r.corrupt == ⟨false, false, false, false⟩
    && r.raced == ⟨false, false, false, false⟩

/-- The bytes a frame shows for a layer (R143): the region's bytes at frame begin, where they are defined. -/
def FrameRecord.layerContent (r : FrameRecord) (l : Layer) : Option Memory :=
  if r.contentDefined then (r.layers.get l).map (fun e => e.bytes) else none

/-! ## Status and enable operations (R416 to R420) -/

/-- `lcdc.error_clr` (R416). -/
def errorClr (s : State) : State :=
  let s1 := s.clearStatus fatalMask
  let s2 : State :=
    { s1 with irq := { s1.irq with enable := s1.irq.enable ||| (s1.irq.fatalMasked.setWidth 32 <<< 7),
                                   fatalMasked := 0#2 } }
  match s.frame.fsm with
  | .error _ =>
    State.finish
      { s2 with frame := { s2.frame with
          valid := false, fsm := if s2.frame.arm = .te then .armedHardwareTE else .idle } } .ok
  | _ => s2.finish .ok

def execLcdcErrorClr (s : State) : Host.Outcome State Fault Refusal := .next (errorClr s)

/-- `irq.read_status` (R417). -/
def execIrqReadStatus (s : State) : Host.Outcome State Fault Refusal := .next (s.finish (.word s.irq.status))

/-- `irq.enable` (R418). -/
def execIrqEnable (mask : Word) (s : State) : Host.Outcome State Fault Refusal :=
  .next ((s.putEnable (mask &&& enableMask)).finish .ok)

/-- `irq.disable` (R419). -/
def execIrqDisable (s : State) : Host.Outcome State Fault Refusal :=
  .next (State.finish { s with irq := { s.irq with enable := 0#32, fatalMasked := 0#2 } } .ok)

/-- `irq.number` (R420). -/
def execIrqNumber (s : State) : Host.Outcome State Fault Refusal := .next (s.finish (.word Config.irqNum))

/-! ## Panel-domain reset (R421) -/

/-- The data lanes leave `HsFrame`, if they are in it (R65, R105: Stop if `HsFrame`, else kept). -/
def State.leaveHs (s : State) : State := if s.link.data = .hsFrame then s.stopLanes else s

/-- The frame in flight, if any, is abandoned (R421); the lanes are in `HsFrame` only with a frame in flight. -/
def abandonFrame (s : State) : State := (s.endInFlight .abandoned).leaveHs

/-- `lcdc.reset` (R421, R105 column PN). The unspecified registers of the four layers hold free values. -/
def panelReset (s : State) : State :=
  let s1 := abandonFrame s
  State.finish
    { s1 with
      irq := { status := s1.irq.status &&& ~~~lcdcStatusMask, enable := 0#32, fatalMasked := 0#2 }
      tim := Tim.afterReset
      layers :=
        { fg := LayerState.afterReset (Config.freeLayerRegs s1.draws)
          bg := LayerState.afterReset (Config.freeLayerRegs (s1.draws + 1))
          wb := LayerState.afterReset (Config.freeLayerRegs (s1.draws + 2))
          sp := LayerState.afterReset (Config.freeLayerRegs (s1.draws + 3)) }
      frame := Frame.afterReset
      draws := s1.draws + 4 } .ok

def execLcdcReset (s : State) : Host.Outcome State Fault Refusal := .next (panelReset s)

/-! ## Callback registration (R422, R423) -/

/-- `host.set_callback` (R422). -/
def execHostSetCallback (l : Layer) (id : Option CallbackId) (s : State) : Host.Outcome State Fault Refusal :=
  .next (State.finish { s with cb := { s.cb with frame := s.cb.frame.set l id } } .ok)

/-- `host.set_fault_callback` (R423). -/
def execHostSetFaultCallback (id : Option CallbackId) (s : State) : Host.Outcome State Fault Refusal :=
  .next (State.finish { s with cb := { s.cb with fault := id } } .ok)

end Sys2Proof.Machine
end

