-- ==== Sys2Proof/Machine/Layers.lean ====
section
/-! DEFINITION. The layer family (42_layers.md): format, blend, chroma key, geometry, pitch, mirror, framebuffer
addresses, enable, and format readback. No operation of this family holds (R360). -/

namespace Sys2Proof.Machine

/-- `lcdc.set_format` (R342). -/
def setFormat (l : Layer) (tag : BitVec 16) (s : State) : State :=
  match formatOperand l tag with
  | none => s.finish .unsupportedFormat
  | some code => (s.writeShadow l (fun c => { c with fmt := some code })).finish .ok

def execLcdcSetFormat (l : Layer) (tag : BitVec 16) (s : State) : Host.Outcome State Fault Refusal :=
  .next (setFormat l tag s)

/-- `lcdc.set_blend` (R343): a documented no-op on WB and SP. -/
def setBlend (l : Layer) (mode : BlendMode) (alpha : Byte) (s : State) : State :=
  match l with
  | .wb => s.finish .ok
  | .sp => s.finish .ok
  | .fg => (s.writeShadow .fg (fun c => { c with blend := mode, alpha := alpha })).finish .ok
  | .bg => (s.writeShadow .bg (fun c => { c with blend := mode, alpha := alpha })).finish .ok

def execLcdcSetBlend (l : Layer) (mode : BlendMode) (alpha : Byte) (s : State) : Host.Outcome State Fault Refusal :=
  .next (setBlend l mode alpha s)

/-- `lcdc.set_ckey` (R344). -/
def execLcdcSetCkey (l : Layer) (matchRgb replaceRgb : Word) (replaceAlpha : Byte) (s : State) :
    Host.Outcome State Fault Refusal :=
  .next ((s.writeShadow l (fun c =>
    { c with ckMatch := rgbOperand matchRgb, ckRep := rgbOperand replaceRgb, ckAlpha := replaceAlpha })).finish .ok)

/-- `lcdc.set_ckey_alpha` (R345). -/
def execLcdcSetCkeyAlpha (l : Layer) (alpha : Byte) (s : State) : Host.Outcome State Fault Refusal :=
  .next ((s.writeShadow l (fun c => { c with ckAlpha := alpha })).finish .ok)

/-- `lcdc.set_geometry` (R346). -/
def execLcdcSetGeometry (l : Layer) (pos size zoom : Word) (s : State) : Host.Outcome State Fault Refusal :=
  .next ((s.writeShadow l (fun c =>
    { c with pos := geoOperand pos, size := geoOperand size, zoom := geoOperand zoom })).finish .ok)

/-- `lcdc.set_pitch` (R348). -/
def execLcdcSetPitch (l : Layer) (pitch : BitVec 16) (s : State) : Host.Outcome State Fault Refusal :=
  .next ((s.writeShadow l (fun c => { c with pitch := pitch.setWidth Config.wPitch })).finish .ok)

/-- `lcdc.set_vmirror` (R349). -/
def execLcdcSetVmirror (l : Layer) (on : Bool) (s : State) : Host.Outcome State Fault Refusal :=
  .next ((s.writeShadow l (fun c => { c with vmirror := on })).finish .ok)

/-- The scanned-channel race (R350, R353): rewriting the address of the channel the frame in flight scans for `l`
marks `l` corrupt in that frame. -/
def Scan.addrWritten (sc : Scan) (l : Layer) (c : Channel) : Scan :=
  match sc.layers.get l with
  | none => sc
  | some e => if e.ch = c then { sc with corrupt := sc.corrupt.set l true } else sc

/-- `lcdc.write_addr` (R350). -/
def writeAddr (l : Layer) (c : Channel) (addr : Word) (s : State) : State :=
  if !displayMem s.windows addr then s.fail .invalidAddress
  else if addr.toNat % Config.fbAlign ≠ 0 then s.fail .misalignedAddress
  else
    let s1 : State := { s with frame := { s.frame with scan := s.frame.scan.map (fun sc => sc.addrWritten l c) } }
    (s1.putLayer l ((s1.layers.get l).putAddr c addr).touch).finish .ok

def execLcdcWriteAddr (l : Layer) (c : Channel) (addr : Word) (s : State) : Host.Outcome State Fault Refusal :=
  .next (writeAddr l c addr s)

/-- The layer enabled or disabled (R340, R355). -/
def LayerState.setEnable (L : LayerState) (on : Bool) : LayerState :=
  { L with sh := { L.sh with en := on }, phase := if on then .enabled else .disabled }

/-- `lcdc.enable` (R355). -/
def enableLayer (l : Layer) (on : Bool) (s : State) : State :=
  let L := s.layers.get l
  if on && !s.tim.set then s.fail .timingNotSet
  else if on && L.sh.fmt.isNone then s.fail .noFormat
  else (s.putLayer l (L.setEnable on)).finish .ok

def execLcdcEnable (l : Layer) (on : Bool) (s : State) : Host.Outcome State Fault Refusal :=
  .next (enableLayer l on s)

/-- `lcdc.read_format` (R358): the shadow format code, zero-extended to a word (R441). -/
def readFormat (l : Layer) (s : State) : State :=
  match (s.layers.get l).sh.fmt with
  | none => s.fail .unsetRead
  | some code => s.finish (.word (code.setWidth 32))

def execLcdcReadFormat (l : Layer) (s : State) : Host.Outcome State Fault Refusal := .next (readFormat l s)

end Sys2Proof.Machine
end

