-- ==== Sys2Proof/Machine/Timing.lean ====
section
/-! DEFINITION. The panel-timing family (41_panel_timing.md): `lcdc.set_timing` and `lcdc.set_mode_defaults`. -/

namespace Sys2Proof.Machine

/-- The timing fields as written in a mode (R320, R321): all thirteen counts masked, the smart-panel pixel count,
and the two Video-only bits. -/
def timWritten (t : TimingCounts) (mode : DisplayMode) : Tim :=
  let r := timOperands t
  { counts := some r, smartPix := some (smartPixels r), dumbEn := decide (mode = .video),
    vsyncMode := decide (mode = .video), set := true }

/-- `lcdc.set_timing` (R320). Reading an unset `dsi.mode` faults (R26); the first check makes `dsi.mode` set in
every run. -/
def setTiming (t : TimingCounts) (s : State) : State :=
  if !s.dsi.configured then s.fail .notConfigured
  else if s.frame.fsm = .scanning then s.fail .timingWhileScanning
  else
    match s.dsi.mode with
    | none => s.fail .unsetRead
    | some mode => State.finish { s with tim := timWritten t mode } .ok

def execLcdcSetTiming (t : TimingCounts) (s : State) : Host.Outcome State Fault Refusal := .next (setTiming t s)

/-- `lcdc.set_mode_defaults` (R322): `lcdc.set_timing` with the default table of the mode. -/
def setModeDefaults (s : State) : State :=
  if !s.dsi.configured then s.fail .notConfigured
  else
    match s.dsi.mode with
    | none => s.fail .unsetRead
    | some mode => setTiming (Config.defaultTiming mode) s

def execLcdcSetModeDefaults (s : State) : Host.Outcome State Fault Refusal := .next (setModeDefaults s)

end Sys2Proof.Machine
end

