-- ==== Sys2Proof/Machine/Dispatch.lean ====
section
/-! DEFINITION. Which meaning each host operation has (30_encoding.md R175), one arm per operation. -/

namespace Sys2Proof.Machine

def exec (i : Instr) (s : State) : Host.Outcome State Fault Refusal :=
  match i with
  | .dsiInit lanes mode bitClock pixelClock => Sys2Proof.Machine.execDsiInit lanes mode bitClock pixelClock s
  | .dsiSend cmd params => Sys2Proof.Machine.execDsiSend cmd params s
  | .dsiRead cmd len => Sys2Proof.Machine.execDsiRead cmd len s
  | .dsiUlpsEnter => Sys2Proof.Machine.execDsiUlpsEnter s
  | .dsiUlpsExit => Sys2Proof.Machine.execDsiUlpsExit s
  | .dsiTeirqEnable => Sys2Proof.Machine.execDsiTeirqEnable s
  | .dsiTeirqDisable => Sys2Proof.Machine.execDsiTeirqDisable s
  | .dsiIsTe status => Sys2Proof.Machine.execDsiIsTe status s
  | .dsiIsError status => Sys2Proof.Machine.execDsiIsError status s
  | .dsiClearError status => Sys2Proof.Machine.execDsiClearError status s
  | .dsiSleep => Sys2Proof.Machine.execDsiSleep s
  | .dsiWakeup => Sys2Proof.Machine.execDsiWakeup s
  | .lcdcSetTiming t => Sys2Proof.Machine.execLcdcSetTiming t s
  | .lcdcSetModeDefaults => Sys2Proof.Machine.execLcdcSetModeDefaults s
  | .lcdcSetFormat l tag => Sys2Proof.Machine.execLcdcSetFormat l tag s
  | .lcdcSetBlend l mode alpha => Sys2Proof.Machine.execLcdcSetBlend l mode alpha s
  | .lcdcSetCkey l matchRgb replaceRgb replaceAlpha => Sys2Proof.Machine.execLcdcSetCkey l matchRgb replaceRgb replaceAlpha s
  | .lcdcSetCkeyAlpha l alpha => Sys2Proof.Machine.execLcdcSetCkeyAlpha l alpha s
  | .lcdcSetGeometry l pos size zoom => Sys2Proof.Machine.execLcdcSetGeometry l pos size zoom s
  | .lcdcWriteAddr l c addr => Sys2Proof.Machine.execLcdcWriteAddr l c addr s
  | .lcdcEnable l on => Sys2Proof.Machine.execLcdcEnable l on s
  | .lcdcSetPitch l pitch => Sys2Proof.Machine.execLcdcSetPitch l pitch s
  | .lcdcSetVmirror l on => Sys2Proof.Machine.execLcdcSetVmirror l on s
  | .lcdcReadFormat l => Sys2Proof.Machine.execLcdcReadFormat l s
  | .lcdcStart => Sys2Proof.Machine.execLcdcStart s
  | .lcdcArmTe => Sys2Proof.Machine.execLcdcArmTe s
  | .lcdcTeTrigger => Sys2Proof.Machine.execLcdcTeTrigger s
  | .lcdcErrorClr => Sys2Proof.Machine.execLcdcErrorClr s
  | .irqEnable mask => Sys2Proof.Machine.execIrqEnable mask s
  | .irqDisable => Sys2Proof.Machine.execIrqDisable s
  | .lcdcReset => Sys2Proof.Machine.execLcdcReset s
  | .hostSetCallback l id => Sys2Proof.Machine.execHostSetCallback l id s
  | .hostSetFaultCallback id => Sys2Proof.Machine.execHostSetFaultCallback id s
  | .irqReadStatus => Sys2Proof.Machine.execIrqReadStatus s
  | .irqNumber => Sys2Proof.Machine.execIrqNumber s

end Sys2Proof.Machine
end

