-- ==== Sys2Proof/Machine/Agents.lean ====
section
/-! DEFINITION. The six agents' steps (00_scope.md R8): HOST and ISR, which issue host operations, TIMER, and what
LINK, SCAN and ENV do for a scheduled choice. -/

namespace Sys2Proof.Machine

/-- The refusal of a command stream whose head is no operation (R173, R448). -/
def Refusal.ofReject (r : Reject) : Refusal :=
  match r with
  | .illegalCommand => .illegalCommand
  | .truncated => .truncatedCommand

/-- The command words not yet issued. -/
def State.setWords (s : State) (ws : List Word) : State := { s with prog := { s.prog with words := ws } }

/-- An operation that holds is not consumed: it is tried again at the next HOST step (R10, R233). -/
def consume (rest : List Word) (t : State) : State := if t.ret = .held then t else t.setWords rest

/-- The HOST issues the operation at the head of its command stream (R9, R96, R149). -/
def hostIssue (s : State) : Host.Outcome State Fault Refusal :=
  match decode s.prog.words with
  | .error r => .refused (Refusal.ofReject r)
  | .ok (i, rest) =>
    match exec i s with
    | .next t => .next (consume rest t)
    | .fault r => .fault r
    | .refused r => .refused r

/-- The HOST agent's step. It takes none while the handler is active (R451), and none when its program is over. -/
def hostStep (s : State) : Host.Outcome State Fault Refusal :=
  if s.isr.active then .next s
  else
    match s.phase with
    | .ready =>
      match s.prog.words with
      | [] => .next s
      | _ :: _ => hostIssue s
    | .reading cmd len t0 buf .poll => .next (readPoll cmd len t0 buf s)
    | .reading _ len _ buf .drain => .next (readDrain len buf s)
    | .ulpsEntering t0 => .next (ulpsEnterWait t0 s)
    | .ulpsExiting t0 => .next (ulpsExitWait t0 s)

/-- The operation of a work item; `DefaultStart` performs `lcdc.start` (R453, R456). -/
def Action.instr (a : Action) : Instr :=
  match a with
  | .op i => i
  | .defaultStart => .lcdcStart

/-- After a work item's operation: its result is discarded; an item that holds stays at the head (R453). -/
def workDone (s : State) (rest : List Action) (t : State) : State :=
  if t.ret = .held then { t with ret := s.ret }
  else { t with ret := s.ret, isr := { t.isr with work := rest } }

/-- The ISR agent's step: handler entry (R451), a work item (R453), or return (R457). -/
def isrStep (s : State) : Host.Outcome State Fault Refusal :=
  if s.isr.active then
    match s.isr.work with
    | [] => .next (handlerReturn s)
    | a :: rest =>
      match exec a.instr s with
      | .next t => .next (workDone s rest t)
      | .fault r => .fault r
      | .refused r => .refused r
  else if s.irqLine then .next (handlerEntry s)
  else .next s

/-- The TIMER agent's step (R470). -/
def timerStep (s : State) : State := { s with now := s.now + 1 }

/-- The ENV agent's step for one event (R479). -/
def envStep (e : EnvEvent) (s : State) : State :=
  match e with
  | .rxByte b => envRxByte b s
  | .rxEnd => envRxEnd s
  | .rxTimeout => envRxFail .rxTimeout s
  | .btaFail => envRxFail .btaFail s
  | .rxError => envRxFail .rxErr s
  | .teEdge pol => envTeEdge pol s
  | .underflow => envUnderflow s
  | .axiError => envAxiError s
  | .errIrq => envErrIrq s

/-- One scheduled step. A choice whose step is not enabled changes nothing (R10 (d)). -/
def runChoice (c : Choice) (s : State) : Host.Outcome State Fault Refusal :=
  match c with
  | .host => hostStep s
  | .isr => isrStep s
  | .link => .next (linkStep s)
  | .scan => .next (scanStep s)
  | .timer => .next (timerStep s)
  | .env e => .next (envStep e s)
  | .pixelWrite a b => .next (producerWrite a b s)
  | .rawAccess a bytes => .refused (if wordAccess a bytes then .registerLayoutOpen else .mmioWidth)

/-- The agent the schedule names next: the HOST when it names none (log entry 4). -/
def nextChoice (s : State) : Choice :=
  match s.sched with
  | [] => .host
  | c :: _ => c

/-- The state with the schedule's head taken. -/
def State.popChoice (s : State) : State := { s with sched := s.sched.tail }

/-- One step of the machine: in a faulted state no agent steps (R99, R446). -/
def machineStep (s : State) : Host.Outcome State Fault Refusal :=
  match s.faulted with
  | some c => .fault (.halted c)
  | none => runChoice (nextChoice s) s.popChoice

end Sys2Proof.Machine
end

