-- ==== Sys2Proof/Machine/Step.lean ====
section
/-! DEFINITION. One step of the machine, and where a host operation is placed so that the next step runs it. -/

namespace Sys2Proof.Machine

/-- One step of the machine. -/
def step (s : State) : Host.Outcome State Fault Refusal := machineStep s

/-- `s` with the operation whose table bits are `w` at the head of the host's command stream, and the HOST, ready
and not preempted, next in the schedule. -/
def State.withFetchWord (s : State) (nbits w : Nat) : State :=
  { s with
    prog := { s.prog with words := tableWords nbits w }
    sched := .host :: s.sched
    phase := .ready
    isr := { s.isr with active := false } }

end Sys2Proof.Machine
end

