-- ==== Sys2Proof/Safety.lean ====
section
/-! DEFINITION. What counts as a good state and as the end of a run, in the terms claims use: the final states and the
observation of a run (60_exceptions.md R446, R480), and the invariants that every step keeps. -/

namespace Sys2Proof.Machine

/-- No model fault has been raised (R446). -/
def State.unfaulted (s : State) : Bool := s.faulted.isNone

/-- A final state (R480). A refused run stops with a refusal and has no final state (R448). -/
def State.final (s : State) : Bool :=
  s.prog.words.isEmpty && decide (s.phase = .ready)
    && !s.isr.active && !s.irqLine
    && s.link.job.isNone && (decide (s.link.data = .stop) || decide (s.link.data = .ulps))
    && !decide (s.frame.fsm = .scanning) && !s.frame.valid
    && s.unfaulted

/-- No frame of the log is corrupt: the postcondition of a tear-free claim (R353). -/
def Logs.tearFree (g : Logs) : Bool := g.frames.all (fun r => r.corrupt == ⟨false, false, false, false⟩)

/-! ## Runs (R8, R475, R480)

A run is a state and an endless schedule: a choice of agent for each step. It ends early only by a fault or a refusal. -/

/-- The state with one choice scheduled, and no other. -/
def State.choose (s : State) (c : Choice) : State := { s with sched := [c] }

/-- The state after the first `n` choices of a schedule (R8). -/
def State.follow (s : State) (choice : Nat → Choice) : Nat → Host.Outcome State Fault Refusal
  | 0 => .next s
  | n + 1 =>
    match s.follow choice n with
    | .next t => step (t.choose (choice n))
    | .fault r => .fault r
    | .refused r => .refused r

/-- An agent's step is enabled: it does something, where a step that holds changes nothing but the record of the
operation that holds (R10, log entry 11). -/
def State.enabled (s : State) (c : Choice) : Prop :=
  ∀ t, runChoice c s = .next t → { t with ret := s.ret } ≠ s

/-- Weak fairness to an agent (R475): if its step stays enabled from some point on, it is taken later. -/
def State.fairTo (s : State) (choice : Nat → Choice) (c : Choice) : Prop :=
  ∀ n, (∀ m, n ≤ m → ∃ t, s.follow choice m = .next t ∧ t.enabled c) → ∃ m, n ≤ m ∧ choice m = c

/-- Every bus turnaround ends (R243, R475), unless the run stops first. -/
def State.turnaroundsEnd (s : State) (choice : Nat → Choice) : Prop :=
  ∀ n t, s.follow choice n = .next t → t.link.data = .bta →
    ∃ m, n ≤ m ∧ ∀ u, s.follow choice m = .next u → u.link.data ≠ .bta

/-- The fairness of a run (R475): weak fairness to the five agents, and of the environment only that every turnaround
ends. -/
def State.fair (s : State) (choice : Nat → Choice) : Prop :=
  (∀ c, (c = .host ∨ c = .isr ∨ c = .link ∨ c = .scan ∨ c = .timer) → s.fairTo choice c) ∧ s.turnaroundsEnd choice

/-- What a run shows (R480): its first final state, and the logs up to it. -/
structure Observation where
  state : State
  logs : Logs
  deriving DecidableEq, Repr

/-- The observation of a state, if it is final. -/
def State.observe (s : State) : Option Observation := if s.final then some { state := s, logs := s.logs } else none

/-- The observation of a run within its first `n` steps: that of the FIRST final state among them (R480). A run that
faults or is refused before a final state has none. -/
def State.observation (s : State) (choice : Nat → Choice) : Nat → Option Observation
  | 0 => s.observe
  | n + 1 =>
    match s.observation choice n with
    | some o => some o
    | none =>
      match s.follow choice (n + 1) with
      | .next t => t.observe
      | .fault _ => none
      | .refused _ => none

/-- The schedule makes no register access but those of host operations. A program's runs are of this kind: a raw access
would be an operation of another program (R132, R149, log entry 8). -/
def operationsOnly (choice : Nat → Choice) : Prop := ∀ n a bytes, choice n ≠ .rawAccess a bytes

/-- The program terminates from a state (R480): every fair run of it has an observation. A run that faults, is refused,
or never reaches a final state refutes it. -/
def State.terminates (s : State) : Prop :=
  ∀ choice, operationsOnly choice → s.fair choice → ∃ n, (s.observation choice n).isSome = true

/-! ## What a step performs, and what a frame leaves behind -/

/-- The next step performs the host operation: the HOST issues it from its command stream (R9, R96), or the handler runs
it as the head of its work (R453). -/
def State.performs (s : State) (i : Instr) : Prop :=
  (nextChoice s = .host ∧ s.isr.active = false ∧ s.phase = .ready ∧ ∃ rest, decode s.prog.words = .ok (i, rest))
    ∨ (nextChoice s = .isr ∧ s.isr.active = true ∧ ∃ a rest, s.isr.work = a :: rest ∧ a.instr = i)

/-- The record is that of the frame in flight, which ends with this outcome (R408). -/
structure FrameRecord.Reports (r : FrameRecord) (s : State) (sc : Scan) (o : FrameOutcome) : Prop where
  k : r.k = sc.k
  mode : r.mode = sc.mode
  tim : r.tim = sc.tim
  lost : r.lost = sc.lost
  corrupt : r.corrupt = sc.corrupt
  /-- Log entry 13 (DEDUCED, from R143), as are the bytes below. -/
  raced : r.raced = sc.raced
  outcome : r.outcome = o
  layers : ∀ l, r.layers.get l = (sc.layers.get l).map (fun e =>
    { ch := e.ch, addr := e.addr, act := (s.layers.get l).act, bytes := e.bytes })

/-! ## Conditions of command traffic -/

/-- The DSI is configured, powered and settled: what ULPS sequences need (R231, R232). -/
def State.dsiReady (s : State) : Prop := s.dsi.configured = true ∧ s.dsi.power = .on ∧ s.settled = true

/-- No job is pending and the data lanes are idle (R233). -/
def State.lanesIdle (s : State) : Prop := s.link.job = none ∧ s.link.data = .stop

/-- Command traffic is accepted at once (R232, R233). -/
def State.commandReady (s : State) : Prop := s.dsiReady ∧ s.link.ulps = .exited ∧ s.lanesIdle

/-- The HOST takes the next step, and it issues an operation: no model fault has been raised, the schedule names the
HOST (or names no agent: log entry 4), the handler does not run (R451), and no blocking operation is under way (R96). -/
def State.hostsTurn (s : State) : Prop :=
  s.faulted = none ∧ (s.sched = [] ∨ ∃ rest, s.sched = .host :: rest) ∧ s.isr.active = false ∧ s.phase = .ready

/-! ## Invariants -/

/-- The address is in a display-capable window and aligned (R352). -/
def validAddress (ws : List Window) (a : Word) : Prop := displayMem ws a = true ∧ a.toNat % 4 = 0

/-- Every framebuffer address held by a layer channel, or read by the frame in flight, is valid (R352). -/
def State.AddressInv (s : State) : Prop :=
  (∀ l c a, (s.layers.get l).addr c = some a → validAddress s.windows a)
    ∧ ∀ sc l e, s.frame.scan = some sc → sc.layers.get l = some e → validAddress s.windows e.addr

/-- The frame machine's fields agree with one another and with the lanes (R88 to R91, R65). -/
structure State.FsmInv (s : State) : Prop where
  /-- A frame is in flight exactly in `Scanning`. -/
  scan_iff : s.frame.scan.isSome = true ↔ s.frame.fsm = .scanning
  /-- The lanes carry a frame exactly in `Scanning`. -/
  lanes_iff : s.link.data = .hsFrame ↔ s.frame.fsm = .scanning
  /-- R90: `frame.valid` is true only while armed. -/
  valid_armed : s.frame.valid = true → s.frame.fsm = .armedSoftware ∨ s.frame.fsm = .armedHardwareTE
  /-- R90: `frame.valid` is always true in `ArmedSoftware`. -/
  software_valid : s.frame.fsm = .armedSoftware → s.frame.valid = true
  /-- `ArmedSoftware` is reached in Software arm mode only, and left when TE mode is chosen (R401, R402). -/
  software_arm : s.frame.fsm = .armedSoftware → s.frame.arm = .software
  /-- `ArmedHardwareTE` is reached in TE arm mode only (R401, R402, R407, R416). -/
  te_arm : s.frame.fsm = .armedHardwareTE → s.frame.arm = .te

/-- The frame numbers of the HS transmissions on the wire, in order (R280, R405). -/
def hsFrames (w : List WireEvent) : List Nat :=
  w.filterMap (fun e => match e with
    | .txHs k => some k
    | _ => none)

/-- How many frames have begun: those recorded, and the one in flight. -/
def State.framesBegun (s : State) : Nat := s.logs.frames.length + (if s.frame.scan.isSome then 1 else 0)

/-- Frames are numbered from 0 in the order they begin, each is sent once, and each that is no longer in flight has
exactly one record, with its number (R405, R408). -/
structure State.FrameLogInv (s : State) : Prop where
  sent : hsFrames s.logs.wire = List.range s.framesBegun
  recorded : s.logs.frames.map (fun r => r.k) = List.range s.logs.frames.length
  inFlight : ∀ sc, s.frame.scan = some sc → sc.k = s.logs.frames.length

/-- The combinations of lane state, job and ULPS latch that the engine can be in (R65, R67, R94, R233 to R267). -/
def linkShape (data : DataLane) (job : Option Job) (latch : UlpsLatch) : Bool :=
  match data, job, latch with
  | .stop, none, .exited => true
  | .stop, some (.txPkt _), .exited => true
  | .stop, some (.txRead _), .exited => true
  | .stop, some .ulpsEnter, .entered => true
  | .lpTx, some (.txPkt _), .exited => true
  | .lpTx, some (.txRead _), .exited => true
  | .bta, some (.txRead _), .exited => true
  | .ulps, none, .entered => true
  | .ulps, some .ulpsExit, .exited => true
  | .hsFrame, none, .exited => true
  | _, _, _ => false

/-- What the write array holds while a job is pending: the packed payload of the long packet being sent, and nothing
else (R69, R138, R140). -/
def writeArrayFor (job : Option Job) : List Word :=
  match job with
  | some (.txPkt (.long _ payload)) => packLe payload
  | _ => []

/-- The link's fields agree with one another (R65 to R69, R94). -/
structure State.LinkInv (s : State) : Prop where
  shape : linkShape s.link.data s.link.job s.link.ulps = true
  clock : s.link.clk = .ulps ↔ s.link.data = .ulps
  writeArray : s.link.wrArray = writeArrayFor s.link.job
  /-- R69: at most `ceil(LONG_MAX / 4)` words. -/
  writeArray_length : s.link.wrArray.length ≤ (Config.longMax + 3) / 4
  /-- R68: at most `RX_FIFO_DEPTH` bytes. -/
  fifo_length : s.link.rxFifo.length ≤ Config.rxFifoDepth

/-- The reserved bits of the status and enable words read 0 (R70, R73). -/
def State.ReservedInv (s : State) : Prop := s.irq.status &&& 0xFFF0C000#32 = 0#32 ∧ s.irq.enable &&& 0xFFFFFE00#32 = 0#32

/-- The configuration fields agree with one another (R42 to R44, R49, R75 to R77, R83, R324, R355). -/
structure State.ConfigInv (s : State) : Prop where
  /-- After a successful `dsi.init` no field it writes is unset, so no read of `dsi.mode` faults. -/
  configured : s.dsi.configured = true → s.dsi.mode.isSome ∧ s.dsi.lanes.isSome ∧ s.dsi.teEdge.isSome
  timing : s.tim.set = true → s.tim.counts.isSome ∧ s.tim.smartPix.isSome
  /-- R83. -/
  enabled_iff : ∀ l, (s.layers.get l).phase = .enabled ↔ (s.layers.get l).sh.en = true
  /-- R324, R355: no layer is enabled before panel timing is written, or without a format. -/
  enabled_ready : ∀ l, (s.layers.get l).sh.en = true → s.tim.set = true ∧ (s.layers.get l).sh.fmt.isSome
  /-- So no frame scans a layer that has no format (R80, R405). -/
  active_format : ∀ l c, (s.layers.get l).act = some c → c.en = true → c.fmt.isSome

/-- While the handler does not run it has no work left (R97, R457). -/
def State.HandlerInv (s : State) : Prop := s.isr.active = false → s.isr.work = []

end Sys2Proof.Machine
end

