-- ==== Sys2Proof/Certificates/Slice0/Obligations.lean ====
section
/-! DEFINITION. The statements for the provers: what the spec's numbered rules say of the host operations, of the other
agents' steps, of the interrupt handler, and of every run. `next` is the outcome of a step that has a next state. -/

section Statements

open Sys2Proof Sys2Proof.Machine Host.Outcome

/-! ## Encoding -/

/-- R170 to R175: an encoded well-formed operation decodes to itself, and leaves the words after it. -/
def Obligations.DecodeEncodeRoundTrip : Prop :=
  ∀ (i : Instr) (rest : List Word), i.wellFormed = true → decode (encode i ++ rest) = .ok (i, rest)

/-- R170 to R175: what decodes is well-formed, and, but for `dsi.send` (whose last parameter word has unused bytes),
its words are exactly the encoding of what they decode to. -/
def Obligations.DecodedWordsReencode : Prop :=
  ∀ (ws : List Word) (i : Instr) (rest : List Word), decode ws = .ok (i, rest) →
    i.wellFormed = true ∧ ((∀ cmd params, i ≠ .dsiSend cmd params) → ws = encode i ++ rest)

/-- Words written out from R171 to R175 (95_test_vectors.md 2.1) decode to the operations they stand for. -/
def Obligations.KnownWordsDecode : Prop :=
  decode [0x00002801#32, 0x190#32, 0x32#32] = .ok (.dsiInit 2#4 .video 400#32 50#32, [])
    ∧ decode [0x002A0002#32, 4#32, 0xC5010000#32]
        = .ok (.dsiSend 0x2A#8 [0x00#8, 0x00#8, 0x01#8, 0xC5#8], [])
    ∧ decode [0x010A0003#32] = .ok (.dsiRead 0x0A#8 1#8, [])
    ∧ decode [0x00800122#32, 0xFF00#32, 0#32] = .ok (.lcdcSetCkey .bg 0xFF00#32 0#32 0x80#8, [])
    ∧ decode [0x00000425#32, 0x20200000#32] = .ok (.lcdcWriteAddr .fg .ch1 0x20200000#32, [])
    ∧ decode [0x00000826#32] = .ok (.lcdcEnable .fg true, [])
    ∧ decode [0x00000034#32, 0x181#32] = .ok (.irqEnable 0x181#32, [])
    ∧ decode [0x00010837#32] = .ok (.hostSetCallback .fg (some 1#16), [])

/-- R173 to R175: a reserved opcode, a nonzero bit in a field the opcode's row marks reserved-zero (the second
component of each pair has a 1 at each such bit), and a callback id without its register flag are refused, whatever
follows. -/
def Obligations.ReservedWordsRefused : Prop :=
  (∀ (w : Word) (rest : List Word) (op : Nat), (w.extractLsb' 0 8).toNat = op →
    (op = 0 ∨ (0x0D ≤ op ∧ op ≤ 0x0F) ∨ (0x12 ≤ op ∧ op ≤ 0x1F) ∨ (0x2A ≤ op ∧ op ≤ 0x2F) ∨ 0x3B ≤ op) →
    decode (w :: rest) = .error .illegalCommand)
  ∧ (∀ p ∈ ([
        (0x01#8, 0xFFFF0700#32), (0x02#8, 0xFF00FF00#32), (0x03#8, 0x0000FF00#32), (0x04#8, 0xFFFFFF00#32),
        (0x05#8, 0xFFFFFF00#32), (0x06#8, 0xFFFFFF00#32), (0x07#8, 0xFFFFFF00#32), (0x08#8, 0xFFFFFF00#32),
        (0x09#8, 0xFFFFFF00#32), (0x0A#8, 0xFFFFFF00#32), (0x0B#8, 0xFFFFFF00#32), (0x0C#8, 0xFFFFFF00#32),
        (0x10#8, 0xFFFFFF00#32), (0x11#8, 0xFFFFFF00#32), (0x20#8, 0x0000FC00#32), (0x21#8, 0xFF00F400#32),
        (0x22#8, 0xFF00FC00#32), (0x23#8, 0xFF00FC00#32), (0x24#8, 0xFFFFFC00#32), (0x25#8, 0xFFFFF800#32),
        (0x26#8, 0xFFFFF400#32), (0x27#8, 0x0000FC00#32), (0x28#8, 0xFFFFF400#32), (0x29#8, 0xFFFFFC00#32),
        (0x30#8, 0xFFFFFF00#32), (0x31#8, 0xFFFFFF00#32), (0x32#8, 0xFFFFFF00#32), (0x33#8, 0xFFFFFF00#32),
        (0x34#8, 0xFFFFFF00#32), (0x35#8, 0xFFFFFF00#32), (0x36#8, 0xFFFFFF00#32), (0x37#8, 0x0000F400#32),
        (0x38#8, 0x0000F700#32), (0x39#8, 0xFFFFFF00#32), (0x3A#8, 0xFFFFFF00#32)] : List (BitVec 8 × Word)),
      ∀ (w : Word) (rest : List Word), w.extractLsb' 0 8 = p.1 → w &&& p.2 ≠ 0#32 →
        decode (w :: rest) = .error .illegalCommand)
  ∧ ∀ (w : Word) (rest : List Word), (w.extractLsb' 0 8 = 0x37#8 ∨ w.extractLsb' 0 8 = 0x38#8) →
      w.getLsbD 11 = false → w.extractLsb' 16 16 ≠ 0#16 → decode (w :: rest) = .error .illegalCommand

/-! ## A step -/

/-- R9, R10, R96, R149: when it is the HOST's turn and its next words decode to an operation, the step performs that
operation and moves past its words; an operation that holds is not consumed, and is tried again. -/
def Obligations.DecodedInstructionRuns : Prop :=
  ∀ (s : State) (i : Instr) (rest : List Word), s.hostsTurn → decode s.prog.words = .ok (i, rest) →
    ∃ t, exec i { s with sched := s.sched.tail } = next t
      ∧ step s = next (if t.ret = .held then t else { t with prog := { t.prog with words := rest } })

/-- R132, R173, R448: a word that is no operation stops the run with a refusal, and so does a register access that is not
one aligned 32-bit word. That a stream which ends inside an operation (log entry 5), and a raw access of the right form
(log entry 8), do too is the model's choice. -/
def Obligations.RefusedWordStopsRun : Prop :=
  (∀ (s : State) (r : Reject), s.hostsTurn → s.prog.words ≠ [] → decode s.prog.words = .error r →
    step s = refused (match r with
      | .illegalCommand => .illegalCommand
      | .truncated => .truncatedCommand))
  ∧ ∀ (s : State) (a : Word) (bytes : Nat) (rest : List Choice),
      s.faulted = none → s.sched = .rawAccess a bytes :: rest →
      step s = refused (if bytes = 4 ∧ a.toNat % 4 = 0 then .registerLayoutOpen else .mmioWidth)

/-- R99: at launch no model fault is marked; once one is, no agent steps, so it is never cleared. -/
def Obligations.FaultedStateStops : Prop :=
  State.reset.faulted = none ∧ ∀ (s : State) (c : FaultCode), s.faulted = some c → step s = fault (.halted c)

/-! ## Packing and packets -/

/-- R140: `pack_le` makes one word for each four bytes, rounded up; byte `i` is byte `i mod 4` of word `i div 4`,
counted from the low end, and the bytes past the last one are zero. -/
def Obligations.PackLeBytePositions : Prop :=
  ∀ (bs : List Byte), (packLe bs).length = (bs.length + 3) / 4
    ∧ ∀ k (h : k < (packLe bs).length), ∀ j, j < 4 →
        ((packLe bs)[k]).extractLsb' (8 * j) 8 = (bs[4 * k + j]?).getD 0#8

/-- R180 to R184, R190, R234: the wire bytes of a packet whose form fits its data type and whose payload fits its word
count are read back as the packet. The packet formats are the spec's own general knowledge (log entry 17, PRESUMED). -/
def Obligations.PacketWireRoundTrip : Prop :=
  ∀ (dir : Direction) (p : Packet), p.fits = true →
    (match p with
      | .short dt _ _ => isLongType dir dt = false
      | .long dt _ => isLongType dir dt = true) →
    Packet.ofWire dir p.wireBytes = some p

/-! ## DSI operations -/

/-- R231. -/
def Obligations.SettledAfterDelay : Prop :=
  ∀ (s : State), s.settled = true ↔
    (s.dsi.settleFrom = none ∨ ∃ t0, s.dsi.settleFrom = some t0 ∧ Config.tSettleUs ≤ s.now - t0)

/-- R230: with no job pending, the PHY powered, no frame in flight, 1 or 2 lanes and a divisor of at most 31,
`dsi.init` resets the PHY and programs the DSI. -/
def Obligations.DsiInitProgramsLink : Prop :=
  ∀ (s : State) (lanes : BitVec 4) (n : LaneCount) (mode : DisplayMode) (bitClock pixelClock : Word),
    s.link.job = none → s.dsi.power = .on → s.frame.fsm ≠ .scanning →
    (lanes = 1#4 ∧ n = .one ∨ lanes = 2#4 ∧ n = .two) →
    pixelClock ≠ 0#32 → bitClock.toNat / pixelClock.toNat ≤ 31 →
    exec (.dsiInit lanes mode bitClock pixelClock) s = next
      { s with
        dsi :=
          { s.dsi with
            configured := true, mode := some mode, lanes := some n,
            pixDiv := BitVec.ofNat 5 (bitClock.toNat / pixelClock.toNat),
            phy := Config.phyTiming bitClock Config.phyGen, teEdge := some .rising,
            videoPktLen := if mode = .video then Config.videoPktLen else s.dsi.videoPktLen,
            lpHsa := if mode = .video then false else s.dsi.lpHsa,
            lpHbp := if mode = .video then false else s.dsi.lpHbp,
            eotp := if mode = .video then false else s.dsi.eotp }
        link := { data := .stop, clk := .lp, job := none, ulps := .exited, rxFifo := [], rxSent := [], wrArray := [] }
        irq := { s.irq with status := s.irq.status &&& ~~~0x00003E00#32 }
        ret := .returned .ok }

/-- R230, R447: `dsi.init` holds while a job is pending, then faults if the PHY is gated or a frame is in flight, then
returns `InvalidConfig` for any other lane count, a zero pixel clock or a divisor above 31; in each case nothing else
changes. -/
def Obligations.DsiInitOtherwise : Prop :=
  ∀ (s : State) (lanes : BitVec 4) (mode : DisplayMode) (bitClock pixelClock : Word),
    (s.link.job ≠ none → exec (.dsiInit lanes mode bitClock pixelClock) s = next { s with ret := .held })
    ∧ (s.link.job = none → s.dsi.power = .off →
        exec (.dsiInit lanes mode bitClock pixelClock) s
          = next { s with faulted := some .dsiAsleep, ret := .aborted })
    ∧ (s.link.job = none → s.dsi.power = .on → s.frame.fsm = .scanning →
        exec (.dsiInit lanes mode bitClock pixelClock) s
          = next { s with faulted := some .initWhileScanning, ret := .aborted })
    ∧ (s.link.job = none → s.dsi.power = .on → s.frame.fsm ≠ .scanning →
        ((lanes ≠ 1#4 ∧ lanes ≠ 2#4) ∨ pixelClock = 0#32 ∨ 31 < bitClock.toNat / pixelClock.toNat) →
        exec (.dsiInit lanes mode bitClock pixelClock) s = next { s with ret := .returned .invalidConfig })

/-- R235, R72, R138, R140: when command traffic is accepted, `dsi.send` clears `CMD_DONE` and queues a short packet for
0 or 1 parameter; for 2 or more it pushes the packed payload to the write array and queues a long packet, or faults if
the payload is longer than `LONG_MAX`. -/
def Obligations.DsiSendQueuesPacket : Prop :=
  ∀ (s : State) (cmd : Byte) (params : List Byte), s.commandReady →
    exec (.dsiSend cmd params) s = next (match params with
      | [] =>
        { s with
          irq := { s.irq with status := s.irq.status &&& ~~~0x00001000#32 }
          link := { s.link with job := some (.txPkt (.short 0x05#6 cmd 0x00#8)) }
          ret := .returned .ok }
      | [p] =>
        { s with
          irq := { s.irq with status := s.irq.status &&& ~~~0x00001000#32 }
          link := { s.link with job := some (.txPkt (.short 0x15#6 cmd p)) }
          ret := .returned .ok }
      | _ =>
        if params.length + 1 ≤ Config.longMax then
          { s with
            irq := { s.irq with status := s.irq.status &&& ~~~0x00001000#32 }
            link := { s.link with
              wrArray := s.link.wrArray ++ packLe (cmd :: params)
              job := some (.txPkt (.long 0x39#6 (cmd :: params))) }
            ret := .returned .ok }
        else { s with faulted := some .longTooBig, ret := .aborted })

/-- R245, R72: when command traffic is accepted, outside the handler, `dsi.read` clears `CMD_DONE` and `RX_DONE`, empties
the FIFO if the implementation does so, queues the read request and begins to poll. -/
def Obligations.DsiReadIssuesRequest : Prop :=
  ∀ (s : State) (cmd len : Byte), s.isr.active = false → s.commandReady →
    exec (.dsiRead cmd len) s = next
      { s with
        irq := { s.irq with status := s.irq.status &&& ~~~0x00003000#32 }
        link := { s.link with
          rxFifo := if Config.rxFlushOnIssue then [] else s.link.rxFifo
          job := some (.txRead (.short 0x06#6 cmd 0x00#8)) }
        phase := .reading cmd len s.now [] .poll
        ret := .waiting }

/-- R232, R233, R447: when command traffic is not accepted, `dsi.send`, and `dsi.read` outside the handler, raise the
first fault that applies, in this order; with none, they hold because the lanes are busy. -/
def Obligations.CommandTrafficChecks : Prop :=
  ∀ (s : State) (i : Instr),
    ((∃ cmd params, i = .dsiSend cmd params) ∨ ((∃ cmd len, i = .dsiRead cmd len) ∧ s.isr.active = false)) →
    ¬ s.commandReady →
    exec i s = next
      (if s.dsi.configured = false then { s with faulted := some .notConfigured, ret := .aborted }
      else if s.dsi.power = .off then { s with faulted := some .dsiAsleep, ret := .aborted }
      else if s.settled = false then { s with faulted := some .linkNotReady, ret := .aborted }
      else if s.link.ulps = .entered then { s with faulted := some .linkNotReady, ret := .aborted }
      else { s with ret := .held })

/-- R446, R460, R506: the blocking operations fault when the handler issues them. -/
def Obligations.BlockingFaultsInHandler : Prop :=
  ∀ (s : State) (i : Instr), s.isr.active = true →
    ((∃ cmd len, i = .dsiRead cmd len) ∨ i = .dsiUlpsEnter ∨ i = .dsiUlpsExit) →
    exec i s = next { s with faulted := some .blockingInIsr, ret := .aborted }

/-- R260, R265: outside the handler, with the DSI ready, entry (lanes idle) and exit (no job pending) each set the
latch, clear `CMD_DONE`, queue their sequence and begin to wait; entry while entered and exit while exited return at
once. -/
def Obligations.UlpsOperationsIssue : Prop :=
  (∀ (s : State), s.isr.active = false → s.link.ulps = .exited → s.dsiReady → s.lanesIdle →
    exec .dsiUlpsEnter s = next
      { s with
        irq := { s.irq with status := s.irq.status &&& ~~~0x00001000#32 }
        link := { s.link with job := some .ulpsEnter, ulps := .entered }
        phase := .ulpsEntering s.now
        ret := .waiting })
  ∧ (∀ (s : State), s.isr.active = false → s.link.ulps = .entered → s.dsiReady → s.link.job = none →
    exec .dsiUlpsExit s = next
      { s with
        irq := { s.irq with status := s.irq.status &&& ~~~0x00001000#32 }
        link := { s.link with job := some .ulpsExit, ulps := .exited }
        phase := .ulpsExiting s.now
        ret := .waiting })
  ∧ (∀ (s : State), s.isr.active = false → s.link.ulps = .entered →
      exec .dsiUlpsEnter s = next { s with ret := .returned .ok })
  ∧ ∀ (s : State), s.isr.active = false → s.link.ulps = .exited →
      exec .dsiUlpsExit s = next { s with ret := .returned .ok }

/-- R232, R260, R265: a ULPS operation that has something to do raises the first fault that applies; with none, it holds
while the lanes are busy (entry) or a job is pending (exit). -/
def Obligations.UlpsOperationsWait : Prop :=
  ∀ (s : State) (i : Instr), s.isr.active = false →
    ((i = .dsiUlpsEnter ∧ s.link.ulps = .exited ∧ ¬ (s.dsiReady ∧ s.lanesIdle))
      ∨ (i = .dsiUlpsExit ∧ s.link.ulps = .entered ∧ ¬ (s.dsiReady ∧ s.link.job = none))) →
    exec i s = next
      (if s.dsi.configured = false then { s with faulted := some .notConfigured, ret := .aborted }
      else if s.dsi.power = .off then { s with faulted := some .dsiAsleep, ret := .aborted }
      else if s.settled = false then { s with faulted := some .linkNotReady, ret := .aborted }
      else { s with ret := .held })

/-- R261, R266: the HOST's wait after `dsi.ulps_enter` ends at `CMD_DONE`, or later than 1000 µs after the issue with a
diagnostic and `UlpsTimeout`; after `dsi.ulps_exit` it ends 1500 µs after the issue. Until then nothing changes. -/
def Obligations.UlpsWaitsEnd : Prop :=
  ∀ (s : State) (t0 : Nat), s.isr.active = false →
    (s.phase = .ulpsEntering t0 →
      runChoice .host s = next
        (if s.irq.status.getLsbD 12 then { s with phase := .ready, ret := .returned .ok }
        else if 1000 < s.now - t0 then
          { s with
            logs := { s.logs with diag := s.logs.diag ++ [.ulpsEnterTimeout] }
            phase := .ready, ret := .returned .ulpsTimeout }
        else s))
    ∧ (s.phase = .ulpsExiting t0 →
      runChoice .host s = next (if 1500 ≤ s.now - t0 then { s with phase := .ready, ret := .returned .ok } else s))

/-- R239 to R241, R262, R267: what the LINK agent does with each job; with no job, or in any other lane state, it does
nothing. -/
def Obligations.LinkRunsJobs : Prop :=
  ∀ (s : State), runChoice .link s = next
    (match s.link.job, s.link.data with
    | some (.txPkt _), .stop => { s with link := { s.link with data := .lpTx } }
    | some (.txRead _), .stop => { s with link := { s.link with data := .lpTx } }
    | some (.txPkt p), .lpTx =>
      { s with
        logs := { s.logs with wire := s.logs.wire ++ [.txLp p] }
        irq := { s.irq with status := s.irq.status ||| 0x00001000#32 }
        link := { s.link with wrArray := [], data := .stop, job := none } }
    | some (.txRead p), .lpTx =>
      { s with
        logs := { s.logs with wire := s.logs.wire ++ [.txLp p, .bta] }
        link := { s.link with data := .bta, rxSent := [] } }
    | some .ulpsEnter, .stop =>
      { s with
        logs := { s.logs with wire :=
          s.logs.wire ++ (if s.link.clk = .hs then [.clkLp] else []) ++ [.ulpsEntry .clock, .ulpsEntry .data] }
        irq := { s.irq with status := s.irq.status ||| 0x00001000#32 }
        link := { s.link with clk := .ulps, data := .ulps, job := none } }
    | some .ulpsExit, .ulps =>
      { s with
        logs := { s.logs with wire := s.logs.wire ++ [.ulpsExit .data, .ulpsExit .clock] }
        irq := { s.irq with status := s.irq.status ||| 0x00001000#32 }
        link := { s.link with clk := .lp, data := .stop, job := none } }
    | _, _ => s)

/-- R242 to R244: while the bus is turned around, a byte the panel sends enters the FIFO if it has room, the end of the
response records the bytes sent, and each failure records its cause; the job is then over. Otherwise these events do
nothing. That a byte which finds the FIFO full changes nothing, `RxError` being a choice of its own, is log entry 25
(DEDUCED). -/
def Obligations.PanelResponds : Prop :=
  ∀ (s : State),
    (s.link.data ≠ .bta →
      ∀ e, ((∃ b, e = .rxByte b) ∨ e = .rxEnd ∨ e = .rxTimeout ∨ e = .btaFail ∨ e = .rxError) →
        runChoice (.env e) s = next s)
    ∧ (s.link.data = .bta →
      (∀ b, runChoice (.env (.rxByte b)) s = next
        (if s.link.rxFifo.length < Config.rxFifoDepth then
          { s with link := { s.link with rxFifo := s.link.rxFifo ++ [b], rxSent := s.link.rxSent ++ [b] } }
        else s))
      ∧ runChoice (.env .rxEnd) s = next
        { s with
          logs := { s.logs with wire := s.logs.wire ++ [.rx s.link.rxSent] }
          irq := { s.irq with status := s.irq.status ||| 0x00002000#32 }
          link := { s.link with data := .stop, job := none } }
      ∧ ∀ e bit, (e = .rxTimeout ∧ bit = 0x00000200#32 ∨ e = .rxError ∧ bit = 0x00000400#32
          ∨ e = .btaFail ∧ bit = 0x00000800#32) →
        runChoice (.env e) s = next
          { s with
            irq := { s.irq with status := s.irq.status ||| bit }
            link := { s.link with data := .stop, job := none } })

/-- R246: one poll of a read. -/
def Obligations.ReadPollFollowsRule : Prop :=
  ∀ (s : State) (cmd len : Byte) (t0 : Nat) (buf : List Byte),
    s.isr.active = false → s.phase = .reading cmd len t0 buf .poll →
    runChoice .host s = next
      (if s.irq.status.getLsbD 9 || s.irq.status.getLsbD 10 || s.irq.status.getLsbD 11 then
        { s with phase := .ready, ret := .returned (.rx .transport) }
      else if buf.length < 4 + len.toNat ∧ s.link.rxFifo ≠ [] then
        { s with
          link := { s.link with rxFifo := s.link.rxFifo.tail }
          phase := .reading cmd len t0 (buf ++ s.link.rxFifo.take 1) .poll }
      else if s.irq.status.getLsbD 13 then { s with phase := .reading cmd len t0 buf .drain }
      else if 1000 < s.now - t0 then { s with phase := .ready, ret := .returned (.rx .transport) }
      else s)

/-- R247: the drain empties the FIFO, logs how many bytes it discarded, if any, and returns the demultiplexed response,
with a warning if it is good and bytes were discarded. -/
def Obligations.ReadDrainFinishes : Prop :=
  ∀ (s : State) (cmd len : Byte) (t0 : Nat) (buf : List Byte),
    s.isr.active = false → s.phase = .reading cmd len t0 buf .drain →
    runChoice .host s = next
      { s with
        link := { s.link with rxFifo := [] }
        logs := { s.logs with diag :=
          s.logs.diag ++ (if s.link.rxFifo = [] then [] else [.extraRxBytes s.link.rxFifo.length]) }
        phase := .ready
        ret := .returned (.rx (match demux buf len.toNat with
          | .ok v => if s.link.rxFifo = [] then .ok v else .okWarn v s.link.rxFifo.length
          | r => r)) }

/-- R248: the demultiplexer's result by the low six bits of the first byte; the payload it gives is never longer than
asked for. -/
def Obligations.DemuxClassifies : Prop :=
  (∀ (buf : List Byte) (len : Nat), buf.length < 4 → demux buf len = .malformed)
  ∧ (∀ (di d0 d1 e : Byte) (payload : List Byte) (len : Nat),
      demux (di :: d0 :: d1 :: e :: payload) len =
        (if di.toNat % 64 = 0x02 then .panelNack (d1 ++ d0)
        else if di.toNat % 64 = 0x11 ∨ di.toNat % 64 = 0x21 then .ok ([d0].take len)
        else if di.toNat % 64 = 0x12 ∨ di.toNat % 64 = 0x22 then .ok ([d0, d1].take len)
        else if di.toNat % 64 = 0x1A ∨ di.toNat % 64 = 0x1C then
          if payload.length < min (d0.toNat + 256 * d1.toNat) len then .malformed
          else .ok (payload.take (min (d0.toNat + 256 * d1.toNat) len))
        else .malformed))
  ∧ ∀ (buf : List Byte) (len : Nat) (v : List Byte), demux buf len = .ok v → v.length ≤ len

/-- R246, R247: a read cannot hang. Once more than 1000 µs have passed since its issue, the HOST's own steps bring it
back to `Ready` within two steps more than the FIFO holds bytes, whatever the panel did. -/
def Obligations.ReadReturnsOnceBoundPassed : Prop :=
  ∀ (s : State) (cmd len : Byte) (t0 : Nat) (buf : List Byte) (stage : ReadStage),
    s.faulted = none → s.sched = [] → s.isr.active = false → s.phase = .reading cmd len t0 buf stage →
    1000 < s.now - t0 →
    ∃ k t, k ≤ s.link.rxFifo.length + 2 ∧ Host.Core.run Sys2Proof.core k s = next t ∧ t.phase = .ready
      ∧ ∃ r, t.ret = .returned (.rx r)

/-- R268 to R272, R71: the words of the five operations; the TE interrupt enable, and nothing else, is set and cleared; the
classifiers look at their operand alone; `dsi.clear_error` clears each of status bits 9 to 11 that is 1 in its operand,
and no other. -/
def Obligations.TePlumbingAndClassifiers : Prop :=
  ∀ (s : State) (w : Word),
    decode [0x06#32] = .ok (.dsiTeirqEnable, []) ∧ decode [0x07#32] = .ok (.dsiTeirqDisable, [])
    ∧ decode [0x08#32, w] = .ok (.dsiIsTe w, []) ∧ decode [0x09#32, w] = .ok (.dsiIsError w, [])
    ∧ decode [0x0A#32, w] = .ok (.dsiClearError w, [])
    ∧ exec .dsiTeirqEnable s = next
      { s with irq := { s.irq with enable := s.irq.enable ||| 0x00000020#32 }, ret := .returned .ok }
    ∧ exec .dsiTeirqDisable s = next
      { s with irq := { s.irq with enable := s.irq.enable &&& ~~~0x00000020#32 }, ret := .returned .ok }
    ∧ exec (.dsiIsTe w) s = next { s with ret := .returned (.bool (w.getLsbD 5)) }
    ∧ exec (.dsiIsError w) s
      = next { s with ret := .returned (.bool (w.getLsbD 9 || w.getLsbD 10 || w.getLsbD 11)) }
    ∧ exec (.dsiClearError w) s = next
      { s with irq := { s.irq with status := s.irq.status &&& ~~~(w &&& 0x00000E00#32) }, ret := .returned .ok }

/-- R275, R276: sleep gates the PHY, does nothing if it is gated, and holds while the lanes are at work; wake-up ungates
it and starts the settle delay, and does nothing if it is not gated. -/
def Obligations.SleepAndWakeup : Prop :=
  ∀ (s : State),
    exec .dsiSleep s = next
      (if s.dsi.power = .off then { s with ret := .returned .ok }
      else if s.link.job ≠ none ∨ s.link.data = .lpTx ∨ s.link.data = .bta ∨ s.link.data = .hsFrame then
        { s with ret := .held }
      else { s with dsi := { s.dsi with power := .off }, ret := .returned .ok })
    ∧ exec .dsiWakeup s = next
      (if s.dsi.power = .on then { s with ret := .returned .ok }
      else { s with dsi := { s.dsi with power := .on, settleFrom := some s.now }, ret := .returned .ok })

/-! ## Panel timing -/

/-- R320 to R322: with the DSI configured and no frame in flight, `lcdc.set_timing` writes the thirteen counts, each
masked to 12 bits, the pixel count of the active area in 24 bits, and the two Video-only bits;
`lcdc.set_mode_defaults` does so with the default table of the mode. -/
def Obligations.SetTimingWritesCounts : Prop :=
  ∀ (s : State) (mode : DisplayMode), s.dsi.configured = true → s.frame.fsm ≠ .scanning → s.dsi.mode = some mode →
    (∀ (t : TimingCounts), exec (.lcdcSetTiming t) s = next
      { s with
        tim :=
          { counts := some
              { hTotal := t.hTotal.setWidth 12, hActive := t.hActive.setWidth 12, hFp := t.hFp.setWidth 12,
                hBp := t.hBp.setWidth 12, hSyncStart := t.hSyncStart.setWidth 12,
                hSyncEnd := t.hSyncEnd.setWidth 12, vTotal := t.vTotal.setWidth 12,
                vActive := t.vActive.setWidth 12, vFp := t.vFp.setWidth 12, vBp := t.vBp.setWidth 12,
                vSyncStart := t.vSyncStart.setWidth 12, vSyncEnd := t.vSyncEnd.setWidth 12,
                standbyVsync := t.standbyVsync.setWidth 12 }
            smartPix := some (BitVec.ofNat 24 ((t.hActive.toNat % 4096) * (t.vActive.toNat % 4096)))
            dumbEn := decide (mode = .video), vsyncMode := decide (mode = .video), set := true }
        ret := .returned .ok })
    ∧ exec .lcdcSetModeDefaults s = exec (.lcdcSetTiming (Config.defaultTiming mode)) s
    ∧ ∃ t, exec .lcdcSetModeDefaults s = next t ∧ t.tim.set = true ∧ t.ret = .returned .ok

/-- R320, R322: before a successful `dsi.init`, and while a frame is in flight, the two timing operations fault and write
nothing. -/
def Obligations.TimingOperationsFault : Prop :=
  ∀ (s : State) (i : Instr), ((∃ t, i = .lcdcSetTiming t) ∨ i = .lcdcSetModeDefaults) →
    (s.dsi.configured = false → exec i s = next { s with faulted := some .notConfigured, ret := .aborted })
    ∧ (s.dsi.configured = true → s.dsi.mode ≠ none → s.frame.fsm = .scanning →
        exec i s = next { s with faulted := some .timingWhileScanning, ret := .aborted })

/-! ## Layers -/

/-- R342, R358, R178: a supported format is written to the shadow, the layer touched; an unsupported one, and every tag of
67 or more, returns `UnsupportedFormat` and writes nothing. Readback returns the shadow format, or faults if it is
unset. -/
def Obligations.SetFormatAndReadback : Prop :=
  ∀ (s : State) (l : Layer) (tag : BitVec 16),
    (∀ code, tag.toNat < 67 → Config.formatCode l tag.toNat = some code →
      exec (.lcdcSetFormat l tag) s = next
        { s with
          layers := s.layers.set l
            { s.layers.get l with
              sh := { (s.layers.get l).sh with fmt := some code }
              phase := if (s.layers.get l).phase = .disabled then .configuring else (s.layers.get l).phase }
          ret := .returned .ok })
    ∧ ((67 ≤ tag.toNat ∨ Config.formatCode l tag.toNat = none) →
      exec (.lcdcSetFormat l tag) s = next { s with ret := .returned .unsupportedFormat })
    ∧ (∀ code, (s.layers.get l).sh.fmt = some code →
      exec (.lcdcReadFormat l) s = next { s with ret := .returned (.word (code.setWidth 32)) })
    ∧ ((s.layers.get l).sh.fmt = none →
      exec (.lcdcReadFormat l) s = next { s with faulted := some .unsetRead, ret := .aborted })

/-- R341, R343 to R349: the other register writes of a layer: each writes its shadow fields, takes a disabled layer to
`Configuring`, and changes nothing else; `lcdc.set_blend` on WB and SP writes nothing. -/
def Obligations.ShadowWrites : Prop :=
  (∀ (s : State) (l : Layer) (i : Instr) (old sh : LayerCfg), (s.layers.get l).sh = old →
    ((∃ mode alpha, i = .lcdcSetBlend l mode alpha ∧ (l = .fg ∨ l = .bg)
        ∧ sh = { old with blend := mode, alpha := alpha })
      ∨ (∃ m r ra, i = .lcdcSetCkey l m r ra
        ∧ sh = { old with
            ckMatch := { r := m.extractLsb' 16 8, g := m.extractLsb' 8 8, b := m.extractLsb' 0 8 }
            ckRep := { r := r.extractLsb' 16 8, g := r.extractLsb' 8 8, b := r.extractLsb' 0 8 }
            ckAlpha := ra })
      ∨ (∃ alpha, i = .lcdcSetCkeyAlpha l alpha ∧ sh = { old with ckAlpha := alpha })
      ∨ (∃ p sz z, i = .lcdcSetGeometry l p sz z
        ∧ sh = { old with
            pos := { fst := p.extractLsb' 0 12, snd := p.extractLsb' 16 12 }
            size := { fst := sz.extractLsb' 0 12, snd := sz.extractLsb' 16 12 }
            zoom := { fst := z.extractLsb' 0 12, snd := z.extractLsb' 16 12 } })
      ∨ (∃ pitch, i = .lcdcSetPitch l pitch ∧ sh = { old with pitch := pitch })
      ∨ (∃ on, i = .lcdcSetVmirror l on ∧ sh = { old with vmirror := on })) →
    exec i s = next
      { s with
        layers := s.layers.set l
          { s.layers.get l with
            sh := sh
            phase := if (s.layers.get l).phase = .disabled then .configuring else (s.layers.get l).phase }
        ret := .returned .ok })
  ∧ ∀ (s : State) (l : Layer) (mode : BlendMode) (alpha : Byte), (l = .wb ∨ l = .sp) →
      exec (.lcdcSetBlend l mode alpha) s = next { s with ret := .returned .ok }

/-- R350, R353: a valid address is installed in its channel, the layer touched, and the frame in flight marked corrupt
for the layer exactly when it scans that channel; an address outside the windows, and then a misaligned one, faults
and writes nothing. -/
def Obligations.WriteAddrInstalls : Prop :=
  ∀ (s : State) (l : Layer) (c : Channel) (a : Word),
    (validAddress s.windows a →
      ∃ t, exec (.lcdcWriteAddr l c a) s = next t
        ∧ t = { s with frame := t.frame, layers := t.layers, ret := .returned .ok }
        ∧ (t.layers.get l).addr c = some a
        ∧ (∀ c', c' ≠ c → (t.layers.get l).addr c' = (s.layers.get l).addr c')
        ∧ t.layers.get l = { s.layers.get l with
            addr0 := (t.layers.get l).addr0, addr1 := (t.layers.get l).addr1
            phase := if (s.layers.get l).phase = .disabled then .configuring else (s.layers.get l).phase }
        ∧ (∀ l', l' ≠ l → t.layers.get l' = s.layers.get l')
        ∧ t.frame = { s.frame with scan := s.frame.scan.map (fun sc =>
            { sc with corrupt :=
              if (sc.layers.get l).map (fun e => e.ch) = some c then sc.corrupt.set l true else sc.corrupt }) })
    ∧ (displayMem s.windows a = false →
        exec (.lcdcWriteAddr l c a) s = next { s with faulted := some .invalidAddress, ret := .aborted })
    ∧ (displayMem s.windows a = true → a.toNat % 4 ≠ 0 →
        exec (.lcdcWriteAddr l c a) s = next { s with faulted := some .misalignedAddress, ret := .aborted })

/-- R355, R340: enabling needs panel timing, then a format, and faults without them; disabling always succeeds. -/
def Obligations.LayerEnableAndDisable : Prop :=
  ∀ (s : State) (l : Layer),
    (s.tim.set = true → (s.layers.get l).sh.fmt ≠ none →
      exec (.lcdcEnable l true) s = next
        { s with
          layers := s.layers.set l
            { s.layers.get l with sh := { (s.layers.get l).sh with en := true }, phase := .enabled }
          ret := .returned .ok })
    ∧ exec (.lcdcEnable l false) s = next
        { s with
          layers := s.layers.set l
            { s.layers.get l with sh := { (s.layers.get l).sh with en := false }, phase := .disabled }
          ret := .returned .ok }
    ∧ (s.tim.set = false →
        exec (.lcdcEnable l true) s = next { s with faulted := some .timingNotSet, ret := .aborted })
    ∧ (s.tim.set = true → (s.layers.get l).sh.fmt = none →
        exec (.lcdcEnable l true) s = next { s with faulted := some .noFormat, ret := .aborted })

/-- R359: no operation on one layer writes any state of another layer, and none but `lcdc.reset` and the operations of the
layer family writes any state of a layer. -/
def Obligations.LayerIndependence : Prop :=
  ∀ (i : Instr) (s t : State), exec i s = next t → i ≠ .lcdcReset →
    (∀ l, t.layers.get l ≠ s.layers.get l →
      (∃ tag, i = .lcdcSetFormat l tag) ∨ (∃ m a, i = .lcdcSetBlend l m a) ∨ (∃ m r a, i = .lcdcSetCkey l m r a)
      ∨ (∃ a, i = .lcdcSetCkeyAlpha l a) ∨ (∃ p sz z, i = .lcdcSetGeometry l p sz z)
      ∨ (∃ c a, i = .lcdcWriteAddr l c a) ∨ (∃ on, i = .lcdcEnable l on) ∨ (∃ p, i = .lcdcSetPitch l p)
      ∨ ∃ on, i = .lcdcSetVmirror l on)

/-- R340: nothing but `lcdc.enable(l, off)` and `lcdc.reset` leaves `Enabled`, and nothing but `lcdc.enable(l, on)`
reaches it; no other agent's step changes the state of a layer. -/
def Obligations.LayerStateTransitions : Prop :=
  (∀ (i : Instr) (s t : State) (l : Layer), exec i s = next t →
    ((s.layers.get l).phase = .enabled → (t.layers.get l).phase ≠ .enabled →
      i = .lcdcEnable l false ∨ i = .lcdcReset)
    ∧ ((s.layers.get l).phase ≠ .enabled → (t.layers.get l).phase = .enabled → i = .lcdcEnable l true)
    ∧ ((s.layers.get l).phase = .configuring → (t.layers.get l).phase = .disabled →
      i = .lcdcEnable l false ∨ i = .lcdcReset))
  ∧ ∀ (c : Choice) (s t : State) (l : Layer), c ≠ .host → c ≠ .isr → runChoice c s = next t →
      (t.layers.get l).phase = (s.layers.get l).phase

/-! ## Frames -/

/-- R401, R402, R403, R410, R491: the three trigger operations, in every state of the frame machine; and a TE edge, which
is a TE pulse if it is of the selected polarity and otherwise, as before `dsi.init`, does nothing. -/
def Obligations.TriggersArmFrames : Prop :=
  ∀ (s : State),
    exec .lcdcStart s = next
      (match s.frame.fsm with
      | .error _ => { s with ret := .returned .paused }
      | .scanning => { s with faulted := some .startWhileScanning, ret := .aborted }
      | .armedSoftware => { s with ret := .returned .ok }
      | .armedHardwareTE => { s with ret := .returned .ok }
      | _ =>
        if s.frame.arm = .software then
          { s with frame := { s.frame with valid := true, fsm := .armedSoftware }, ret := .returned .ok }
        else { s with frame := { s.frame with fsm := .armedHardwareTE }, ret := .returned .ok })
    ∧ exec .lcdcArmTe s = next
      { s with
        frame :=
          if s.frame.fsm = .idle ∨ s.frame.fsm = .frameDone ∨ s.frame.fsm = .armedSoftware then
            { s.frame with arm := .te, valid := false, fsm := .armedHardwareTE }
          else { s.frame with arm := .te }
        ret := .returned .ok }
    ∧ exec .lcdcTeTrigger s = next
      { s with
        irq := { s.irq with status := s.irq.status ||| 0x00000020#32 }
        frame := { s.frame with valid := if s.frame.fsm = .armedHardwareTE then true else s.frame.valid }
        ret := .returned .ok }
    ∧ ∀ pol, runChoice (.env (.teEdge pol)) s = next
      (if s.dsi.teEdge = some pol then
        { s with
          irq := { s.irq with status := s.irq.status ||| 0x00000020#32 }
          frame := { s.frame with valid := if s.frame.fsm = .armedHardwareTE then true else s.frame.valid } }
      else s)

/-- R405, R80, R91, R280, R408: a triggered frame with the lanes idle, the DSI ready and out of ULPS, timing set and an
address in the current channel of every enabled layer begins: every layer's shadow is latched, the enabled layers form
the scan set, VSYNC is recorded and the lanes carry the frame. Memory changes only where WB may write (R144): that its
bytes are unknown from frame begin on is log entry 14 (DEDUCED), and the bytes and the raced marks of the scan set are
log entry 13 (DEDUCED, from R142 and R143). That a region past 2^32 does not wrap, in both, is log entry 23 (DESIGN
CHOICE). -/
def Obligations.FrameBeginsScan : Prop :=
  ∀ (s : State) (mode : DisplayMode),
    s.frame.valid = true → (s.frame.fsm = .armedSoftware ∨ s.frame.fsm = .armedHardwareTE) →
    s.lanesIdle → s.dsiReady → s.link.ulps = .exited → s.tim.set = true → s.dsi.mode = some mode →
    (∀ l, (s.layers.get l).sh.en = true → (s.layers.get l).addr (s.layers.get l).cur ≠ none) →
    ∃ t sc, runChoice .scan s = next t
      ∧ t = { s with layers := t.layers, frame := t.frame, irq := t.irq, link := t.link, logs := t.logs, mem := t.mem }
      ∧ (∀ l, t.layers.get l = { s.layers.get l with act := some (s.layers.get l).sh })
      ∧ t.frame = { s.frame with fsm := .scanning, valid := false, scan := some sc }
      ∧ (sc.k = s.logs.frames.length ∧ sc.mode = mode ∧ sc.tim = s.tim ∧ sc.lost = false
        ∧ sc.corrupt = ⟨false, false, false, false⟩ ∧ sc.raced = ⟨false, false, false, false⟩)
      ∧ (∀ l, (s.layers.get l).sh.en = false → sc.layers.get l = none)
      ∧ (∀ l a, (s.layers.get l).sh.en = true → (s.layers.get l).addr (s.layers.get l).cur = some a →
        sc.layers.get l = some
          { ch := (s.layers.get l).cur, addr := a
            bytes := s.mem.slice a.toNat
              (a.toNat + (s.layers.get l).sh.pitch.toNat * (s.layers.get l).sh.size.snd.toNat) })
      ∧ t.irq = { s.irq with status := s.irq.status ||| 0x00000010#32 }
      ∧ t.link = { s.link with data := .hsFrame, clk := .hs }
      ∧ t.logs = { s.logs with wire := s.logs.wire ++ [.txHs s.logs.frames.length] }
      ∧ (∀ a, t.mem.read a = if t.scans sc .wb a then none else s.mem.read a)

/-- R405, R454, R509: outside a frame the SCAN agent does nothing with no trigger, nor in `Idle`, `FrameDone` or `Error`
whatever `frame.valid` says: no frame begins there. A triggered frame waits while an LP command is on the lanes; then it
faults if the DSI is not configured, the link is not ready, timing is not set, or an enabled layer's current channel has
no address; no fault changes more than its mark, but for the last, of which the statement leaves the layers open (what
they hold then is log entry 21). -/
def Obligations.FrameBeginWaitsOrFaults : Prop :=
  ∀ (s : State),
    ((s.frame.fsm = .idle ∨ s.frame.fsm = .frameDone ∨ ∃ k, s.frame.fsm = .error k) → runChoice .scan s = next s)
    ∧ (s.frame.fsm ≠ .scanning → s.frame.valid = false → runChoice .scan s = next s)
    ∧ ((s.frame.fsm = .armedSoftware ∨ s.frame.fsm = .armedHardwareTE) → s.frame.valid = true →
      (¬ s.lanesIdle → runChoice .scan s = next s)
      ∧ (s.lanesIdle → s.dsi.configured = false → runChoice .scan s = next { s with faulted := some .notConfigured })
      ∧ (s.lanesIdle → s.dsi.configured = true → ¬ (s.dsiReady ∧ s.link.ulps = .exited) →
        runChoice .scan s = next { s with faulted := some .linkNotReady })
      ∧ (s.lanesIdle → s.dsiReady → s.link.ulps = .exited → s.tim.set = false →
        runChoice .scan s = next { s with faulted := some .timingNotSet })
      ∧ (s.lanesIdle → s.dsiReady → s.link.ulps = .exited → s.tim.set = true → s.dsi.mode ≠ none →
        (∃ l, (s.layers.get l).sh.en = true ∧ (s.layers.get l).addr (s.layers.get l).cur = none) →
        ∃ t, runChoice .scan s = next t ∧ t = { s with layers := t.layers, faulted := some .unsetRead }))

/-- R407, R408, R82, R144: frame end records frame-done and the completed channel of each layer in the scan set, toggles its
current channel, logs the one record of the frame and returns the lanes and the frame machine; nothing else changes
but what WB may have written. That its bytes are unknown is log entry 14 (DEDUCED), that they are those of the region
read at frame begin is log entry 27 (DESIGN CHOICE), that the region does not wrap is log entry 23 (DESIGN CHOICE), and
the bytes and raced marks of the record are log entry 13 (DEDUCED). -/
def Obligations.FrameEndReports : Prop :=
  ∀ (s : State) (sc : Scan), s.frame.fsm = .scanning → s.frame.scan = some sc →
    ∃ t, runChoice .scan s = next t
      ∧ t = { s with layers := t.layers, frame := t.frame, irq := t.irq, link := t.link, logs := t.logs, mem := t.mem }
      ∧ (∀ l, t.layers.get l = match sc.layers.get l with
        | none => s.layers.get l
        | some e => { s.layers.get l with cur := if e.ch = .ch0 then .ch1 else .ch0 })
      ∧ (∀ l, t.irq.status.getLsbD (layerNo l) = (s.irq.status.getLsbD (layerNo l) || (sc.layers.get l).isSome))
      ∧ (∀ l, t.irq.status.getLsbD (16 + layerNo l) = match sc.layers.get l with
        | none => s.irq.status.getLsbD (16 + layerNo l)
        | some e => decide (e.ch = .ch1))
      ∧ (∀ j, (4 ≤ j ∧ j < 16 ∨ 20 ≤ j) → t.irq.status.getLsbD j = s.irq.status.getLsbD j)
      ∧ t.irq = { s.irq with status := t.irq.status }
      ∧ t.frame = { s.frame with
          scan := none, fsm := if s.frame.arm = .te then .armedHardwareTE else .frameDone }
      ∧ t.link = { s.link with data := .stop }
      ∧ (∃ r, t.logs = { s.logs with frames := s.logs.frames ++ [r] } ∧ r.Reports s sc .done)
      ∧ (∀ a, t.mem.read a = if s.scans sc .wb a then none else s.mem.read a)

/-- R412 to R414: an underflow marks the frame in flight lost and lets it go on; an AXI error aborts it; the error IRQ
aborts it if there is one and pauses delivery in any state, keeping an error already present. A frame aborted has one
record (R408, its bytes and raced marks log entry 13, DEDUCED) and no frame-done; the bytes WB may have written are
unknown (R144, R406, log entry 14, DEDUCED), by the region read at frame begin (log entry 27, DESIGN CHOICE), which does
not wrap (log entry 23, DESIGN CHOICE). -/
def Obligations.FrameErrorsFromEnvironment : Prop :=
  ∀ (s : State),
    runChoice (.env .underflow) s = next
      (if s.frame.fsm = .scanning then
        { s with
          irq := { s.irq with status := s.irq.status ||| 0x00000040#32 }
          frame := { s.frame with scan := s.frame.scan.map (fun sc => { sc with lost := true }) } }
      else s)
    ∧ (s.frame.fsm ≠ .scanning → runChoice (.env .axiError) s = next s)
    ∧ (s.frame.fsm ≠ .scanning → runChoice (.env .errIrq) s = next
        { s with
          irq := { s.irq with status := s.irq.status ||| 0x00000100#32 }
          frame := match s.frame.fsm with
            | .error _ => s.frame
            | _ => { s.frame with valid := false, fsm := .error .errIrq } })
    ∧ ∀ sc, s.frame.fsm = .scanning → s.frame.scan = some sc →
      ∀ e kind bit, (e = .axiError ∧ kind = .axiBus ∧ bit = 0x00000080#32
          ∨ e = .errIrq ∧ kind = .errIrq ∧ bit = 0x00000100#32) →
        ∃ t r, runChoice (.env e) s = next t
          ∧ t = { s with
              irq := { s.irq with status := s.irq.status ||| bit }
              frame := { s.frame with scan := none, valid := false, fsm := .error kind }
              link := { s.link with data := .stop }
              logs := { s.logs with frames := s.logs.frames ++ [r] }
              mem := t.mem }
          ∧ r.Reports s sc (.aborted kind)
          ∧ ∀ a, t.mem.read a = if s.scans sc .wb a then none else s.mem.read a

/-- R416 to R420: the words of the five operations; acknowledging a fatal error; the operations on the status and enable
words. -/
def Obligations.InterruptOperations : Prop :=
  ∀ (s : State) (w : Word),
    decode [0x33#32] = .ok (.lcdcErrorClr, []) ∧ decode [0x39#32] = .ok (.irqReadStatus, [])
    ∧ decode [0x34#32, w] = .ok (.irqEnable w, []) ∧ decode [0x35#32] = .ok (.irqDisable, [])
    ∧ decode [0x3A#32] = .ok (.irqNumber, [])
    ∧ exec .lcdcErrorClr s = next
      { s with
        irq :=
          { status := s.irq.status &&& ~~~0x00000180#32
            enable := s.irq.enable ||| (s.irq.fatalMasked.setWidth 32 <<< 7)
            fatalMasked := 0#2 }
        frame := match s.frame.fsm with
          | .error _ =>
            { s.frame with valid := false, fsm := if s.frame.arm = .te then .armedHardwareTE else .idle }
          | _ => s.frame
        ret := .returned .ok }
    ∧ exec .irqReadStatus s = next { s with ret := .returned (.word s.irq.status) }
    ∧ exec (.irqEnable w) s = next
      { s with irq := { s.irq with enable := w &&& 0x000001FF#32 }, ret := .returned .ok }
    ∧ exec .irqDisable s = next
      { s with irq := { s.irq with enable := 0#32, fatalMasked := 0#2 }, ret := .returned .ok }
    ∧ exec .irqNumber s = next { s with ret := .returned (.word Config.irqNum) }

/-- R421, R105 column PN: the panel-domain reset. The registers it leaves unspecified hold values the statement does not
constrain; what it keeps is kept; a frame in flight is recorded as abandoned (R408, the bytes and raced marks log entry
13, DEDUCED), and the bytes WB may have written are unknown (R144, R406, log entry 14, DEDUCED), by the region read at
frame begin (log entry 27, DESIGN CHOICE), which does not wrap (log entry 23, DESIGN CHOICE). That lanes in `HsFrame`
with no frame in flight stop too is log entry 22 (DEDUCED). -/
def Obligations.PanelResetClears : Prop :=
  ∀ (s : State), ∃ t, exec .lcdcReset s = next t
    ∧ t = { s with
        link := { s.link with data :=
          if s.link.data = .hsFrame then .stop else s.link.data }
        irq := { status := s.irq.status &&& ~~~0x000F01FF#32, enable := 0#32, fatalMasked := 0#2 }
        tim := { counts := none, smartPix := none, dumbEn := false, vsyncMode := false, set := false }
        layers := t.layers
        frame := { fsm := .idle, arm := .software, valid := false, scan := none }
        logs := { s.logs with frames := t.logs.frames }
        mem := t.mem
        draws := t.draws
        ret := .returned .ok }
    ∧ (∀ l, ∃ r : LayerRegs, t.layers.get l =
        { sh := { toLayerRegs := r, fmt := none, vmirror := false, en := false }
          act := none, addr0 := none, addr1 := none, cur := .ch0, phase := .disabled })
    ∧ (s.frame.scan = none → t.logs.frames = s.logs.frames ∧ t.mem = s.mem)
    ∧ ∀ sc, s.frame.scan = some sc →
        (∃ r, t.logs.frames = s.logs.frames ++ [r] ∧ r.Reports s sc .abandoned)
        ∧ ∀ a, t.mem.read a = if s.scans sc .wb a then none else s.mem.read a

/-- R422, R423. -/
def Obligations.CallbacksRegister : Prop :=
  ∀ (s : State) (l : Layer) (id : Option CallbackId),
    exec (.hostSetCallback l id) s = next
      { s with cb := { s.cb with frame := s.cb.frame.set l id }, ret := .returned .ok }
    ∧ exec (.hostSetFaultCallback id) s = next { s with cb := { s.cb with fault := id }, ret := .returned .ok }

/-- R400: the state of the frame machine after a host operation. No operation but these four changes it. -/
def Obligations.FrameMachineTransitions : Prop :=
  ∀ (i : Instr) (s t : State), exec i s = next t →
    t.frame.fsm = match i, s.frame.fsm with
      | .lcdcStart, .idle => if s.frame.arm = .te then .armedHardwareTE else .armedSoftware
      | .lcdcStart, .frameDone => if s.frame.arm = .te then .armedHardwareTE else .armedSoftware
      | .lcdcArmTe, .idle => .armedHardwareTE
      | .lcdcArmTe, .frameDone => .armedHardwareTE
      | .lcdcArmTe, .armedSoftware => .armedHardwareTE
      | .lcdcErrorClr, .error _ => if s.frame.arm = .te then .armedHardwareTE else .idle
      | .lcdcReset, _ => .idle
      | _, f => f

/-- R454, R71, R509: the fatal status bits, once recorded, stay until `lcdc.error_clr` or `lcdc.reset`: no step that
performs neither clears them; and no other host operation, no other agent's step and no handler entry does. -/
def Obligations.FatalStaysUntilAcknowledged : Prop :=
  ∀ (s t : State) (j : Nat), (j = 7 ∨ j = 8) → s.irq.status.getLsbD j = true →
    (¬ s.performs .lcdcErrorClr → ¬ s.performs .lcdcReset → step s = next t → t.irq.status.getLsbD j = true)
    ∧ (∀ i, i ≠ .lcdcErrorClr → i ≠ .lcdcReset → exec i s = next t → t.irq.status.getLsbD j = true)
    ∧ (∀ c, c ≠ .host → c ≠ .isr → runChoice c s = next t → t.irq.status.getLsbD j = true)
    ∧ (handlerEntry s).irq.status.getLsbD j = true

/-! ## The interrupt handler -/

/-- R450 to R454: when the line is asserted and the handler does not run, the ISR enters it. Of the status bits, exactly
the enabled ones among 0 to 6 are cleared; of the enables, exactly those of recorded fatal causes, which are
remembered; and the line drops. -/
def Obligations.HandlerEntryStatus : Prop :=
  ∀ (s : State), s.isr.active = false →
    (∃ j, j < 9 ∧ s.irq.status.getLsbD j = true ∧ s.irq.enable.getLsbD j = true) →
    ∃ t, runChoice .isr s = next t
      ∧ t = { s with irq := t.irq, isr := t.isr, logs := t.logs }
      ∧ t.isr.active = true
      ∧ (∀ j, t.irq.status.getLsbD j = (s.irq.status.getLsbD j && !(decide (j < 7) && s.irq.enable.getLsbD j)))
      ∧ (∀ j, t.irq.enable.getLsbD j
          = (s.irq.enable.getLsbD j && !((decide (j = 7) || decide (j = 8)) && s.irq.status.getLsbD j)))
      ∧ t.irq.fatalMasked = s.irq.fatalMasked ||| (s.irq.status &&& s.irq.enable).extractLsb' 7 2
      ∧ t.irqLine = false

/-- R452, R455, R456: what handler entry logs and queues: the fatal diagnostic and the fault callback's operations, the
lost-frame diagnostic, then layer by layer the frame-done callbacks with the completed channel, and last the default
re-start if some handled layer has no callback. -/
def Obligations.HandlerEntryQueues : Prop :=
  ∀ (s : State), s.isr.active = false →
    (∃ j, j < 9 ∧ s.irq.status.getLsbD j = true ∧ s.irq.enable.getLsbD j = true) →
    ∃ t, runChoice .isr s = next t
      ∧ (let pending := s.irq.status &&& s.irq.enable
        let fatal := pending.getLsbD 7 || pending.getLsbD 8
        let kind : ErrKind := if pending.getLsbD 7 then .axiBus else .errIrq
        let channel := fun (l : Layer) => if s.irq.status.getLsbD (16 + layerNo l) then Channel.ch1 else .ch0
        let layers := [Layer.fg, .bg, .wb, .sp]
        t.logs = { s.logs with
            diag := s.logs.diag ++ (if fatal then [.fatalError kind] else [])
              ++ (if pending.getLsbD 6 then [.lostFrame] else [])
            events := s.logs.events ++ (if fatal && s.cb.fault.isSome then [.faultCb kind] else [])
              ++ layers.flatMap (fun l =>
                if pending.getLsbD (layerNo l) && (s.cb.frame.get l).isSome then [.frameDoneCb l (channel l)] else []) }
        ∧ t.isr.work =
            (match s.cb.fault with
              | some id => if fatal then (s.prog.faultCallback id kind).map Action.op else []
              | none => [])
            ++ layers.flatMap (fun l =>
              match s.cb.frame.get l with
              | some id =>
                if pending.getLsbD (layerNo l) then (s.prog.frameCallback id l (channel l)).map Action.op else []
              | none => [])
            ++ (if layers.any (fun l => pending.getLsbD (layerNo l) && (s.cb.frame.get l).isNone) then
                [.defaultStart]
              else []))

/-- R451, R453, R456 to R458: while the handler runs the HOST takes no step; the ISR performs the head of its work as a host
operation (`DefaultStart` as `lcdc.start`), discards the result and removes the item unless it holds; with no work left
it returns and restores nothing. While it does not run and the line is low, the ISR does nothing. -/
def Obligations.HandlerRunsWork : Prop :=
  (∀ (s : State), s.isr.active = true → runChoice .host s = next s)
  ∧ (∀ (s : State) (a : Action) (rest : List Action), s.isr.active = true → s.isr.work = a :: rest →
      ∃ t, exec (match a with
          | .op i => i
          | .defaultStart => .lcdcStart) s = next t
        ∧ runChoice .isr s = next
          (if t.ret = .held then { t with ret := s.ret }
          else { t with ret := s.ret, isr := { t.isr with work := rest } }))
  ∧ (∀ (s : State), s.isr.active = true → s.isr.work = [] →
      runChoice .isr s = next { s with isr := { active := false, work := [] } })
  ∧ ∀ (s : State), s.isr.active = false → (s.irq.status &&& s.irq.enable &&& 0x000001FF#32) = 0#32 →
      runChoice .isr s = next s

/-! ## The other agents -/

/-- R470: the TIMER advances the tick by one and changes nothing else; no other step changes it. -/
def Obligations.OnlyTimerAdvancesTime : Prop :=
  (∀ (s : State), runChoice .timer s = next { s with now := s.now + 1 })
  ∧ ∀ (s t : State), step s = next t → nextChoice s ≠ .timer → t.now = s.now

/-- R139, R143, R144: a producer's pixel write changes its byte; written while a frame scans it for a layer, it marks the
frame raced for that layer, and a byte that WB may be writing is no longer known. The producer's one-byte step and its
mark are log entry 24 (DEDUCED; R6 leaves the producer out of scope), the unknown byte is log entry 14 (DEDUCED). That
the scanned bytes are those of the region read at frame begin, even once the scanned channel is rewritten, is log entry
27 (DESIGN CHOICE); that the region does not wrap is log entry 23 (DESIGN CHOICE). -/
def Obligations.ProducerWriteRaces : Prop :=
  ∀ (s : State) (a : Word) (b : Byte), ∃ t, runChoice (.pixelWrite a b) s = next t
    ∧ t = { s with frame := { s.frame with scan := t.frame.scan }, mem := t.mem }
    ∧ (∀ a', a' ≠ a.toNat → t.mem.read a' = s.mem.read a')
    ∧ (s.frame.scan = none → t.frame.scan = none ∧ t.mem.read a.toNat = some b)
    ∧ ∀ sc, s.frame.scan = some sc →
        t.mem.read a.toNat = (if s.scans sc .wb a.toNat then none else some b)
        ∧ ∃ sc', t.frame.scan = some sc' ∧ sc' = { sc with raced := sc'.raced }
          ∧ ∀ l, sc'.raced.get l = (sc.raced.get l || s.scans sc l a.toNat)

/-! ## Invariants -/

/-- R352: the validity check, for any set of display-capable windows; no address that fails it is ever held in a layer
channel, nor scanned, and no step changes the windows. The windows as a field that no step changes are log entry 20
(DESIGN CHOICE, the form of an open parameter). -/
def Obligations.StepKeepsValidAddresses : Prop :=
  (∀ ws a, validFb ws a = true ↔ (displayMem ws a = true ∧ a.toNat % Config.fbAlign = 0))
  ∧ State.reset.AddressInv
  ∧ ∀ (s t : State), s.AddressInv → step s = next t → t.AddressInv ∧ t.windows = s.windows

/-- The framebuffer memory keeps its canonical form, inside the 32-bit address space (R135). The form is the model's. -/
def Obligations.StepKeepsMemoryCanonical : Prop :=
  ∀ (s t : State), Memory.wf s.mem → step s = next t → Memory.wf t.mem

/-- R88 to R91, R65, R280, R405, R408: the frame machine's fields agree with one another and with the lanes, and frames are
numbered, sent and recorded once each. -/
def Obligations.StepKeepsFrameMachine : Prop :=
  ∀ (s t : State), s.FsmInv → s.FrameLogInv → step s = next t → t.FsmInv ∧ t.FrameLogInv

/-- R65 to R69, R94, R233 to R267: the lanes, the job, the ULPS latch, the clock lane, the write array and the FIFO stay in
agreement. -/
def Obligations.StepKeepsLink : Prop :=
  ∀ (s t : State), s.FsmInv → s.LinkInv → step s = next t → t.LinkInv

/-- R67, R239 to R244, R262, R267: a pending job never gets stuck: while the bus is not turned around the LINK agent's step
changes the link, and while it is, each of the environment's four events that end a response ends the job. -/
def Obligations.PendingJobProgresses : Prop :=
  ∀ (s : State), s.LinkInv → s.link.job ≠ none →
    (s.link.data ≠ .bta → ∃ t, runChoice .link s = next t ∧ t.link ≠ s.link)
    ∧ (s.link.data = .bta → ∀ e, (e = .rxEnd ∨ e = .rxTimeout ∨ e = .btaFail ∨ e = .rxError) →
      ∃ t, runChoice (.env e) s = next t ∧ t.link.job = none ∧ t.link.data = .stop)

/-- R475, R243: in a fair run every link job ends, unless the run stops by a fault or a refusal first. -/
def Obligations.FairRunsEndJobs : Prop :=
  ∀ (s : State) (choice : Nat → Choice) (n : Nat), s.FsmInv → s.FrameLogInv → s.LinkInv → s.fair choice →
    ∃ m, n ≤ m ∧ ∀ t, s.follow choice m = next t → t.link.job = none

/-- R42 to R44, R49, R70, R73, R75 to R77, R83, R97, R324: the configuration fields stay in agreement, the reserved bits of
the status and enable words read 0, and an idle handler has no work. -/
def Obligations.StepKeepsConfiguration : Prop :=
  ∀ (s t : State), s.ConfigInv → s.ReservedInv → s.HandlerInv → step s = next t →
    t.ConfigInv ∧ t.ReservedInv ∧ t.HandlerInv

/-- R105: the reset state meets every invariant. -/
def Obligations.ResetMeetsInvariants : Prop :=
  State.reset.AddressInv ∧ Memory.wf State.reset.mem ∧ State.reset.FsmInv ∧ State.reset.FrameLogInv
    ∧ State.reset.LinkInv ∧ State.reset.ConfigInv ∧ State.reset.ReservedInv ∧ State.reset.HandlerInv

/-- R105 column POR, R490: the fields whose power-on value the spec gives. The tick, the PHY counts, the divisor, the video
fields and the unspecified layer registers are the model's choice (log entry 2), and the statement says nothing of them. -/
def Obligations.PowerOnValues : Prop :=
  let s := State.reset
  (s.dsi.configured = false ∧ s.dsi.mode = none ∧ s.dsi.lanes = none ∧ s.dsi.teEdge = none ∧ s.dsi.power = .on
    ∧ s.dsi.settleFrom = none)
  ∧ s.link = { data := .stop, clk := .lp, job := none, ulps := .exited, rxFifo := [], rxSent := [], wrArray := [] }
  ∧ s.irq = { status := 0#32, enable := 0#32, fatalMasked := 0#2 }
  ∧ s.tim = { counts := none, smartPix := none, dumbEn := false, vsyncMode := false, set := false }
  ∧ (∀ l, ∃ r : LayerRegs, s.layers.get l =
      { sh := { toLayerRegs := r, fmt := none, vmirror := false, en := false }
        act := none, addr0 := none, addr1 := none, cur := .ch0, phase := .disabled })
  ∧ s.frame = { fsm := .idle, arm := .software, valid := false, scan := none }
  ∧ s.cb = { frame := ⟨none, none, none, none⟩, fault := none }
  ∧ s.phase = .ready ∧ s.isr = { active := false, work := [] } ∧ s.faulted = none
  ∧ s.logs = { wire := [], frames := [], diag := [], events := [] }

/-- R100: the four logs are empty at launch and only grow. -/
def Obligations.LogsOnlyGrow : Prop :=
  State.reset.logs = { wire := [], frames := [], diag := [], events := [] }
  ∧ ∀ (s t : State), step s = next t →
      s.logs.wire <+: t.logs.wire ∧ s.logs.frames <+: t.logs.frames ∧ s.logs.diag <+: t.logs.diag
        ∧ s.logs.events <+: t.logs.events

end Statements
end

