-- ==== Sys2Proof/Laws/Decode.lean ====
section
/-! SUPPORT. The small lemmas of the encoding: fields packed and unpacked, operand values to bits and back, bytes
packed and unpacked. -/

namespace Sys2Proof

/-- Unpacking a packed command word gives its fields back (R171). -/
@[simp] theorem Fields.ofWord_toWord (h : Fields) : Fields.ofWord h.toWord = h := by
  obtain ⟨op, l, c, f, s, imm⟩ := h
  simp only [Fields.ofWord, Fields.toWord, Fields.mk.injEq]
  refine ⟨?_, ?_, ?_, ?_, ?_, ?_⟩ <;>
  · apply BitVec.eq_of_getLsbD_eq
    intro i hi
    simp only [BitVec.getLsbD_extractLsb', BitVec.getLsbD_append, hi, decide_true, Bool.true_and]
    repeat' split
    all_goals first
      | omega
      | (congr 1; omega)

/-- Packing the fields of a command word gives it back: no bit of a command word lies outside its fields (R171). -/
@[simp] theorem Fields.toWord_ofWord (w : Word) : (Fields.ofWord w).toWord = w := by
  apply BitVec.eq_of_getLsbD_eq
  intro i hi
  simp only [Fields.ofWord, Fields.toWord, BitVec.getLsbD_append, BitVec.getLsbD_extractLsb']
  repeat' split
  all_goals
    rw [decide_eq_true (by omega), Bool.true_and]
    congr 1
    omega

/-- The row of an opcode is a row of the opcode map with that opcode (R175). -/
theorem opRow_some {op : BitVec 8} {r : OpRow} (h : opRow op = some r) : r ∈ opTable ∧ r.op = op :=
  ⟨List.mem_of_find?_eq_some h, by simpa using List.find?_some h⟩

/-- An opcode that no row has is not assigned (R173). -/
theorem opRow_none {op : BitVec 8} (h : ∀ r ∈ opTable, r.op ≠ op) : opRow op = none := by
  simpa [opRow, List.find?_eq_none] using h

@[simp] theorem Layer.toBits_ofBits (b : BitVec 2) : (Layer.ofBits b).toBits = b := by
  have h : ∀ b : BitVec 2, (Layer.ofBits b).toBits = b := by decide
  exact h b

@[simp] theorem Channel.toBit_ofBit (b : BitVec 1) : (Channel.ofBit b).toBit = b := by
  have h : ∀ b : BitVec 1, (Channel.ofBit b).toBit = b := by decide
  exact h b

@[simp] theorem DisplayMode.toBit_ofBit (b : BitVec 1) : (DisplayMode.ofBit b).toBit = b := by
  have h : ∀ b : BitVec 1, (DisplayMode.ofBit b).toBit = b := by decide
  exact h b

@[simp] theorem BlendMode.toBit_ofBit (b : BitVec 1) : (BlendMode.ofBit b).toBit = b := by
  have h : ∀ b : BitVec 1, (BlendMode.ofBit b).toBit = b := by decide
  exact h b

@[simp] theorem onToBit_onOfBit (b : BitVec 1) : onToBit (onOfBit b) = b := by
  have h : ∀ b : BitVec 1, onToBit (onOfBit b) = b := by decide
  exact h b

@[simp] theorem Layer.ofBits_toBits (l : Layer) : Layer.ofBits l.toBits = l := by cases l <;> rfl

@[simp] theorem Channel.ofBit_toBit (c : Channel) : Channel.ofBit c.toBit = c := by cases c <;> rfl

@[simp] theorem DisplayMode.ofBit_toBit (m : DisplayMode) : DisplayMode.ofBit m.toBit = m := by cases m <;> rfl

@[simp] theorem BlendMode.ofBit_toBit (m : BlendMode) : BlendMode.ofBit m.toBit = m := by cases m <;> rfl

@[simp] theorem onOfBit_onToBit (on : Bool) : onOfBit (onToBit on) = on := by cases on <;> rfl

/-- The low byte of `IMM[15:8] ++ IMM[7:0]`. -/
theorem extract_low_append (hi lo : Byte) : ((hi ++ lo : BitVec 16)).extractLsb' 0 8 = lo := by
  apply BitVec.eq_of_getLsbD_eq
  intro i h
  simp only [BitVec.getLsbD_extractLsb', BitVec.getLsbD_append, h, decide_true, Bool.true_and, Nat.zero_add, if_true]

/-- The high byte of `IMM[15:8] ++ IMM[7:0]`. -/
theorem extract_high_append (hi lo : Byte) : ((hi ++ lo : BitVec 16)).extractLsb' 8 8 = hi := by
  apply BitVec.eq_of_getLsbD_eq
  intro i h
  have h8 : ¬ 8 + i < 8 := by omega
  simp only [BitVec.getLsbD_extractLsb', BitVec.getLsbD_append, h, h8, decide_true, Bool.true_and, if_false,
    Nat.add_sub_cancel_left]

@[simp] theorem extract_immLow (b : Byte) : (immLow b).extractLsb' 0 8 = b := extract_low_append 0#8 b

/-- IMM[15:8] of a byte operand is zero, so a row that uses IMM[7:0] only admits it (R174). -/
theorem immLow_reserved (b : Byte) : immLow b &&& 0xFF00#16 = 0#16 := by
  apply BitVec.eq_of_getLsbD_eq
  intro i h
  have hm : (0xFF00#16).getLsbD i = !decide (i < 8) := by interval_cases i <;> rfl
  simp only [immLow, BitVec.getLsbD_and, BitVec.getLsbD_append, hm]
  by_cases h8 : i < 8 <;> simp [h8]

/-- The bytes of a word put together from bytes (R140). -/
theorem wordBytes_wordOfBytes (b0 b1 b2 b3 : Byte) : wordBytes (wordOfBytes b0 b1 b2 b3) = [b0, b1, b2, b3] := by
  simp only [wordBytes, wordOfBytes, List.cons.injEq, and_true]
  refine ⟨?_, ?_, ?_, ?_⟩ <;>
  · apply BitVec.eq_of_getLsbD_eq
    intro i hi
    simp only [BitVec.getLsbD_extractLsb', BitVec.getLsbD_append, hi, decide_true, Bool.true_and]
    repeat' split
    all_goals first
      | omega
      | (congr 1; omega)

theorem unpackLe_cons (w : Word) (ws : List Word) : unpackLe (w :: ws) = wordBytes w ++ unpackLe ws := by
  simp [unpackLe]

/-- Packed bytes come back in order; past them the last word holds zeros (R140). -/
theorem take_unpackLe_packLe (bs : List Byte) : (unpackLe (packLe bs)).take bs.length = bs := by
  induction bs using packLe.induct with
  | case1 => rfl
  | case2 b0 => simp [packLe, unpackLe_cons, wordBytes_wordOfBytes]
  | case3 b0 b1 => simp [packLe, unpackLe_cons, wordBytes_wordOfBytes]
  | case4 b0 b1 b2 => simp [packLe, unpackLe_cons, wordBytes_wordOfBytes]
  | case5 b0 b1 b2 b3 rest ih => simp [packLe, unpackLe_cons, wordBytes_wordOfBytes, ih]

/-- `pack_le` makes `ceil(|bytes|/4)` words (R140, R172). -/
theorem length_packLe (bs : List Byte) : (packLe bs).length = (bs.length + 3) / 4 := by
  induction bs using packLe.induct with
  | case5 b0 b1 b2 b3 rest ih =>
    simp only [packLe, List.length_cons, ih]
    omega
  | _ => simp [packLe]

end Sys2Proof
end

