-- ==== Sys2Proof/Laws/State.lean ====
section
/-! SUPPORT. What each named update of the state does to each field: one lemma per field per update, so that no later
proof unfolds a record update. -/

namespace Sys2Proof.Machine

/-! ### `State.finish` -/

@[simp] theorem State.finish_dsi (s : State) (r : Result) : (s.finish r).dsi = s.dsi := rfl
@[simp] theorem State.finish_link (s : State) (r : Result) : (s.finish r).link = s.link := rfl
@[simp] theorem State.finish_irq (s : State) (r : Result) : (s.finish r).irq = s.irq := rfl
@[simp] theorem State.finish_tim (s : State) (r : Result) : (s.finish r).tim = s.tim := rfl
@[simp] theorem State.finish_layers (s : State) (r : Result) : (s.finish r).layers = s.layers := rfl
@[simp] theorem State.finish_frame (s : State) (r : Result) : (s.finish r).frame = s.frame := rfl
@[simp] theorem State.finish_cb (s : State) (r : Result) : (s.finish r).cb = s.cb := rfl
@[simp] theorem State.finish_phase (s : State) (r : Result) : (s.finish r).phase = s.phase := rfl
@[simp] theorem State.finish_isr (s : State) (r : Result) : (s.finish r).isr = s.isr := rfl
@[simp] theorem State.finish_now (s : State) (r : Result) : (s.finish r).now = s.now := rfl
@[simp] theorem State.finish_faulted (s : State) (r : Result) : (s.finish r).faulted = s.faulted := rfl
@[simp] theorem State.finish_logs (s : State) (r : Result) : (s.finish r).logs = s.logs := rfl
@[simp] theorem State.finish_mem (s : State) (r : Result) : (s.finish r).mem = s.mem := rfl
@[simp] theorem State.finish_prog (s : State) (r : Result) : (s.finish r).prog = s.prog := rfl
@[simp] theorem State.finish_windows (s : State) (r : Result) : (s.finish r).windows = s.windows := rfl
@[simp] theorem State.finish_sched (s : State) (r : Result) : (s.finish r).sched = s.sched := rfl
@[simp] theorem State.finish_draws (s : State) (r : Result) : (s.finish r).draws = s.draws := rfl
@[simp] theorem State.finish_ret (s : State) (r : Result) : (s.finish r).ret = .returned r := rfl

/-! ### `State.hold` -/

@[simp] theorem State.hold_dsi (s : State) : (s.hold).dsi = s.dsi := rfl
@[simp] theorem State.hold_link (s : State) : (s.hold).link = s.link := rfl
@[simp] theorem State.hold_irq (s : State) : (s.hold).irq = s.irq := rfl
@[simp] theorem State.hold_tim (s : State) : (s.hold).tim = s.tim := rfl
@[simp] theorem State.hold_layers (s : State) : (s.hold).layers = s.layers := rfl
@[simp] theorem State.hold_frame (s : State) : (s.hold).frame = s.frame := rfl
@[simp] theorem State.hold_cb (s : State) : (s.hold).cb = s.cb := rfl
@[simp] theorem State.hold_phase (s : State) : (s.hold).phase = s.phase := rfl
@[simp] theorem State.hold_isr (s : State) : (s.hold).isr = s.isr := rfl
@[simp] theorem State.hold_now (s : State) : (s.hold).now = s.now := rfl
@[simp] theorem State.hold_faulted (s : State) : (s.hold).faulted = s.faulted := rfl
@[simp] theorem State.hold_logs (s : State) : (s.hold).logs = s.logs := rfl
@[simp] theorem State.hold_mem (s : State) : (s.hold).mem = s.mem := rfl
@[simp] theorem State.hold_prog (s : State) : (s.hold).prog = s.prog := rfl
@[simp] theorem State.hold_windows (s : State) : (s.hold).windows = s.windows := rfl
@[simp] theorem State.hold_sched (s : State) : (s.hold).sched = s.sched := rfl
@[simp] theorem State.hold_draws (s : State) : (s.hold).draws = s.draws := rfl
@[simp] theorem State.hold_ret (s : State) : (s.hold).ret = .held := rfl

/-! ### `State.raise` -/

@[simp] theorem State.raise_dsi (s : State) (c : FaultCode) : (s.raise c).dsi = s.dsi := rfl
@[simp] theorem State.raise_link (s : State) (c : FaultCode) : (s.raise c).link = s.link := rfl
@[simp] theorem State.raise_irq (s : State) (c : FaultCode) : (s.raise c).irq = s.irq := rfl
@[simp] theorem State.raise_tim (s : State) (c : FaultCode) : (s.raise c).tim = s.tim := rfl
@[simp] theorem State.raise_layers (s : State) (c : FaultCode) : (s.raise c).layers = s.layers := rfl
@[simp] theorem State.raise_frame (s : State) (c : FaultCode) : (s.raise c).frame = s.frame := rfl
@[simp] theorem State.raise_cb (s : State) (c : FaultCode) : (s.raise c).cb = s.cb := rfl
@[simp] theorem State.raise_phase (s : State) (c : FaultCode) : (s.raise c).phase = s.phase := rfl
@[simp] theorem State.raise_isr (s : State) (c : FaultCode) : (s.raise c).isr = s.isr := rfl
@[simp] theorem State.raise_now (s : State) (c : FaultCode) : (s.raise c).now = s.now := rfl
@[simp] theorem State.raise_faulted (s : State) (c : FaultCode) : (s.raise c).faulted = some c := rfl
@[simp] theorem State.raise_logs (s : State) (c : FaultCode) : (s.raise c).logs = s.logs := rfl
@[simp] theorem State.raise_mem (s : State) (c : FaultCode) : (s.raise c).mem = s.mem := rfl
@[simp] theorem State.raise_prog (s : State) (c : FaultCode) : (s.raise c).prog = s.prog := rfl
@[simp] theorem State.raise_windows (s : State) (c : FaultCode) : (s.raise c).windows = s.windows := rfl
@[simp] theorem State.raise_sched (s : State) (c : FaultCode) : (s.raise c).sched = s.sched := rfl
@[simp] theorem State.raise_draws (s : State) (c : FaultCode) : (s.raise c).draws = s.draws := rfl
@[simp] theorem State.raise_ret (s : State) (c : FaultCode) : (s.raise c).ret = s.ret := rfl

/-! ### `State.fail` -/

@[simp] theorem State.fail_dsi (s : State) (c : FaultCode) : (s.fail c).dsi = s.dsi := rfl
@[simp] theorem State.fail_link (s : State) (c : FaultCode) : (s.fail c).link = s.link := rfl
@[simp] theorem State.fail_irq (s : State) (c : FaultCode) : (s.fail c).irq = s.irq := rfl
@[simp] theorem State.fail_tim (s : State) (c : FaultCode) : (s.fail c).tim = s.tim := rfl
@[simp] theorem State.fail_layers (s : State) (c : FaultCode) : (s.fail c).layers = s.layers := rfl
@[simp] theorem State.fail_frame (s : State) (c : FaultCode) : (s.fail c).frame = s.frame := rfl
@[simp] theorem State.fail_cb (s : State) (c : FaultCode) : (s.fail c).cb = s.cb := rfl
@[simp] theorem State.fail_phase (s : State) (c : FaultCode) : (s.fail c).phase = s.phase := rfl
@[simp] theorem State.fail_isr (s : State) (c : FaultCode) : (s.fail c).isr = s.isr := rfl
@[simp] theorem State.fail_now (s : State) (c : FaultCode) : (s.fail c).now = s.now := rfl
@[simp] theorem State.fail_faulted (s : State) (c : FaultCode) : (s.fail c).faulted = some c := rfl
@[simp] theorem State.fail_logs (s : State) (c : FaultCode) : (s.fail c).logs = s.logs := rfl
@[simp] theorem State.fail_mem (s : State) (c : FaultCode) : (s.fail c).mem = s.mem := rfl
@[simp] theorem State.fail_prog (s : State) (c : FaultCode) : (s.fail c).prog = s.prog := rfl
@[simp] theorem State.fail_windows (s : State) (c : FaultCode) : (s.fail c).windows = s.windows := rfl
@[simp] theorem State.fail_sched (s : State) (c : FaultCode) : (s.fail c).sched = s.sched := rfl
@[simp] theorem State.fail_draws (s : State) (c : FaultCode) : (s.fail c).draws = s.draws := rfl
@[simp] theorem State.fail_ret (s : State) (c : FaultCode) : (s.fail c).ret = .aborted := rfl

/-! ### `State.returnFromWait` -/

@[simp] theorem State.returnFromWait_dsi (s : State) (r : Result) : (s.returnFromWait r).dsi = s.dsi := rfl
@[simp] theorem State.returnFromWait_link (s : State) (r : Result) : (s.returnFromWait r).link = s.link := rfl
@[simp] theorem State.returnFromWait_irq (s : State) (r : Result) : (s.returnFromWait r).irq = s.irq := rfl
@[simp] theorem State.returnFromWait_tim (s : State) (r : Result) : (s.returnFromWait r).tim = s.tim := rfl
@[simp] theorem State.returnFromWait_layers (s : State) (r : Result) : (s.returnFromWait r).layers = s.layers := rfl
@[simp] theorem State.returnFromWait_frame (s : State) (r : Result) : (s.returnFromWait r).frame = s.frame := rfl
@[simp] theorem State.returnFromWait_cb (s : State) (r : Result) : (s.returnFromWait r).cb = s.cb := rfl
@[simp] theorem State.returnFromWait_phase (s : State) (r : Result) : (s.returnFromWait r).phase = .ready := rfl
@[simp] theorem State.returnFromWait_isr (s : State) (r : Result) : (s.returnFromWait r).isr = s.isr := rfl
@[simp] theorem State.returnFromWait_now (s : State) (r : Result) : (s.returnFromWait r).now = s.now := rfl
@[simp] theorem State.returnFromWait_faulted (s : State) (r : Result) :
    (s.returnFromWait r).faulted = s.faulted := rfl
@[simp] theorem State.returnFromWait_logs (s : State) (r : Result) : (s.returnFromWait r).logs = s.logs := rfl
@[simp] theorem State.returnFromWait_mem (s : State) (r : Result) : (s.returnFromWait r).mem = s.mem := rfl
@[simp] theorem State.returnFromWait_prog (s : State) (r : Result) : (s.returnFromWait r).prog = s.prog := rfl
@[simp] theorem State.returnFromWait_windows (s : State) (r : Result) : (s.returnFromWait r).windows = s.windows := rfl
@[simp] theorem State.returnFromWait_sched (s : State) (r : Result) : (s.returnFromWait r).sched = s.sched := rfl
@[simp] theorem State.returnFromWait_draws (s : State) (r : Result) : (s.returnFromWait r).draws = s.draws := rfl
@[simp] theorem State.returnFromWait_ret (s : State) (r : Result) : (s.returnFromWait r).ret = .returned r := rfl

/-! ### `State.emit` -/

@[simp] theorem State.emit_dsi (s : State) (e : WireEvent) : (s.emit e).dsi = s.dsi := rfl
@[simp] theorem State.emit_link (s : State) (e : WireEvent) : (s.emit e).link = s.link := rfl
@[simp] theorem State.emit_irq (s : State) (e : WireEvent) : (s.emit e).irq = s.irq := rfl
@[simp] theorem State.emit_tim (s : State) (e : WireEvent) : (s.emit e).tim = s.tim := rfl
@[simp] theorem State.emit_layers (s : State) (e : WireEvent) : (s.emit e).layers = s.layers := rfl
@[simp] theorem State.emit_frame (s : State) (e : WireEvent) : (s.emit e).frame = s.frame := rfl
@[simp] theorem State.emit_cb (s : State) (e : WireEvent) : (s.emit e).cb = s.cb := rfl
@[simp] theorem State.emit_phase (s : State) (e : WireEvent) : (s.emit e).phase = s.phase := rfl
@[simp] theorem State.emit_isr (s : State) (e : WireEvent) : (s.emit e).isr = s.isr := rfl
@[simp] theorem State.emit_now (s : State) (e : WireEvent) : (s.emit e).now = s.now := rfl
@[simp] theorem State.emit_faulted (s : State) (e : WireEvent) : (s.emit e).faulted = s.faulted := rfl
@[simp] theorem State.emit_logs (s : State) (e : WireEvent) :
    (s.emit e).logs = { s.logs with wire := s.logs.wire ++ [e] } := rfl
@[simp] theorem State.emit_mem (s : State) (e : WireEvent) : (s.emit e).mem = s.mem := rfl
@[simp] theorem State.emit_prog (s : State) (e : WireEvent) : (s.emit e).prog = s.prog := rfl
@[simp] theorem State.emit_windows (s : State) (e : WireEvent) : (s.emit e).windows = s.windows := rfl
@[simp] theorem State.emit_sched (s : State) (e : WireEvent) : (s.emit e).sched = s.sched := rfl
@[simp] theorem State.emit_draws (s : State) (e : WireEvent) : (s.emit e).draws = s.draws := rfl
@[simp] theorem State.emit_ret (s : State) (e : WireEvent) : (s.emit e).ret = s.ret := rfl

/-! ### `State.logDiag` -/

@[simp] theorem State.logDiag_dsi (s : State) (e : DiagEvent) : (s.logDiag e).dsi = s.dsi := rfl
@[simp] theorem State.logDiag_link (s : State) (e : DiagEvent) : (s.logDiag e).link = s.link := rfl
@[simp] theorem State.logDiag_irq (s : State) (e : DiagEvent) : (s.logDiag e).irq = s.irq := rfl
@[simp] theorem State.logDiag_tim (s : State) (e : DiagEvent) : (s.logDiag e).tim = s.tim := rfl
@[simp] theorem State.logDiag_layers (s : State) (e : DiagEvent) : (s.logDiag e).layers = s.layers := rfl
@[simp] theorem State.logDiag_frame (s : State) (e : DiagEvent) : (s.logDiag e).frame = s.frame := rfl
@[simp] theorem State.logDiag_cb (s : State) (e : DiagEvent) : (s.logDiag e).cb = s.cb := rfl
@[simp] theorem State.logDiag_phase (s : State) (e : DiagEvent) : (s.logDiag e).phase = s.phase := rfl
@[simp] theorem State.logDiag_isr (s : State) (e : DiagEvent) : (s.logDiag e).isr = s.isr := rfl
@[simp] theorem State.logDiag_now (s : State) (e : DiagEvent) : (s.logDiag e).now = s.now := rfl
@[simp] theorem State.logDiag_faulted (s : State) (e : DiagEvent) : (s.logDiag e).faulted = s.faulted := rfl
@[simp] theorem State.logDiag_logs (s : State) (e : DiagEvent) :
    (s.logDiag e).logs = { s.logs with diag := s.logs.diag ++ [e] } := rfl
@[simp] theorem State.logDiag_mem (s : State) (e : DiagEvent) : (s.logDiag e).mem = s.mem := rfl
@[simp] theorem State.logDiag_prog (s : State) (e : DiagEvent) : (s.logDiag e).prog = s.prog := rfl
@[simp] theorem State.logDiag_windows (s : State) (e : DiagEvent) : (s.logDiag e).windows = s.windows := rfl
@[simp] theorem State.logDiag_sched (s : State) (e : DiagEvent) : (s.logDiag e).sched = s.sched := rfl
@[simp] theorem State.logDiag_draws (s : State) (e : DiagEvent) : (s.logDiag e).draws = s.draws := rfl
@[simp] theorem State.logDiag_ret (s : State) (e : DiagEvent) : (s.logDiag e).ret = s.ret := rfl

/-! ### `State.logEvent` -/

@[simp] theorem State.logEvent_dsi (s : State) (e : CallbackEvent) : (s.logEvent e).dsi = s.dsi := rfl
@[simp] theorem State.logEvent_link (s : State) (e : CallbackEvent) : (s.logEvent e).link = s.link := rfl
@[simp] theorem State.logEvent_irq (s : State) (e : CallbackEvent) : (s.logEvent e).irq = s.irq := rfl
@[simp] theorem State.logEvent_tim (s : State) (e : CallbackEvent) : (s.logEvent e).tim = s.tim := rfl
@[simp] theorem State.logEvent_layers (s : State) (e : CallbackEvent) : (s.logEvent e).layers = s.layers := rfl
@[simp] theorem State.logEvent_frame (s : State) (e : CallbackEvent) : (s.logEvent e).frame = s.frame := rfl
@[simp] theorem State.logEvent_cb (s : State) (e : CallbackEvent) : (s.logEvent e).cb = s.cb := rfl
@[simp] theorem State.logEvent_phase (s : State) (e : CallbackEvent) : (s.logEvent e).phase = s.phase := rfl
@[simp] theorem State.logEvent_isr (s : State) (e : CallbackEvent) : (s.logEvent e).isr = s.isr := rfl
@[simp] theorem State.logEvent_now (s : State) (e : CallbackEvent) : (s.logEvent e).now = s.now := rfl
@[simp] theorem State.logEvent_faulted (s : State) (e : CallbackEvent) : (s.logEvent e).faulted = s.faulted := rfl
@[simp] theorem State.logEvent_logs (s : State) (e : CallbackEvent) :
    (s.logEvent e).logs = { s.logs with events := s.logs.events ++ [e] } := rfl
@[simp] theorem State.logEvent_mem (s : State) (e : CallbackEvent) : (s.logEvent e).mem = s.mem := rfl
@[simp] theorem State.logEvent_prog (s : State) (e : CallbackEvent) : (s.logEvent e).prog = s.prog := rfl
@[simp] theorem State.logEvent_windows (s : State) (e : CallbackEvent) : (s.logEvent e).windows = s.windows := rfl
@[simp] theorem State.logEvent_sched (s : State) (e : CallbackEvent) : (s.logEvent e).sched = s.sched := rfl
@[simp] theorem State.logEvent_draws (s : State) (e : CallbackEvent) : (s.logEvent e).draws = s.draws := rfl
@[simp] theorem State.logEvent_ret (s : State) (e : CallbackEvent) : (s.logEvent e).ret = s.ret := rfl

/-! ### `State.logFrame` -/

@[simp] theorem State.logFrame_dsi (s : State) (r : FrameRecord) : (s.logFrame r).dsi = s.dsi := rfl
@[simp] theorem State.logFrame_link (s : State) (r : FrameRecord) : (s.logFrame r).link = s.link := rfl
@[simp] theorem State.logFrame_irq (s : State) (r : FrameRecord) : (s.logFrame r).irq = s.irq := rfl
@[simp] theorem State.logFrame_tim (s : State) (r : FrameRecord) : (s.logFrame r).tim = s.tim := rfl
@[simp] theorem State.logFrame_layers (s : State) (r : FrameRecord) : (s.logFrame r).layers = s.layers := rfl
@[simp] theorem State.logFrame_frame (s : State) (r : FrameRecord) : (s.logFrame r).frame = s.frame := rfl
@[simp] theorem State.logFrame_cb (s : State) (r : FrameRecord) : (s.logFrame r).cb = s.cb := rfl
@[simp] theorem State.logFrame_phase (s : State) (r : FrameRecord) : (s.logFrame r).phase = s.phase := rfl
@[simp] theorem State.logFrame_isr (s : State) (r : FrameRecord) : (s.logFrame r).isr = s.isr := rfl
@[simp] theorem State.logFrame_now (s : State) (r : FrameRecord) : (s.logFrame r).now = s.now := rfl
@[simp] theorem State.logFrame_faulted (s : State) (r : FrameRecord) : (s.logFrame r).faulted = s.faulted := rfl
@[simp] theorem State.logFrame_logs (s : State) (r : FrameRecord) :
    (s.logFrame r).logs = { s.logs with frames := s.logs.frames ++ [r] } := rfl
@[simp] theorem State.logFrame_mem (s : State) (r : FrameRecord) : (s.logFrame r).mem = s.mem := rfl
@[simp] theorem State.logFrame_prog (s : State) (r : FrameRecord) : (s.logFrame r).prog = s.prog := rfl
@[simp] theorem State.logFrame_windows (s : State) (r : FrameRecord) : (s.logFrame r).windows = s.windows := rfl
@[simp] theorem State.logFrame_sched (s : State) (r : FrameRecord) : (s.logFrame r).sched = s.sched := rfl
@[simp] theorem State.logFrame_draws (s : State) (r : FrameRecord) : (s.logFrame r).draws = s.draws := rfl
@[simp] theorem State.logFrame_ret (s : State) (r : FrameRecord) : (s.logFrame r).ret = s.ret := rfl

/-! ### `State.putStatus` -/

@[simp] theorem State.putStatus_dsi (s : State) (i : Nat) (b : Bool) : (s.putStatus i b).dsi = s.dsi := rfl
@[simp] theorem State.putStatus_link (s : State) (i : Nat) (b : Bool) : (s.putStatus i b).link = s.link := rfl
@[simp] theorem State.putStatus_irq (s : State) (i : Nat) (b : Bool) :
    (s.putStatus i b).irq = { s.irq with status := putBit s.irq.status i b } := rfl
@[simp] theorem State.putStatus_tim (s : State) (i : Nat) (b : Bool) : (s.putStatus i b).tim = s.tim := rfl
@[simp] theorem State.putStatus_layers (s : State) (i : Nat) (b : Bool) : (s.putStatus i b).layers = s.layers := rfl
@[simp] theorem State.putStatus_frame (s : State) (i : Nat) (b : Bool) : (s.putStatus i b).frame = s.frame := rfl
@[simp] theorem State.putStatus_cb (s : State) (i : Nat) (b : Bool) : (s.putStatus i b).cb = s.cb := rfl
@[simp] theorem State.putStatus_phase (s : State) (i : Nat) (b : Bool) : (s.putStatus i b).phase = s.phase := rfl
@[simp] theorem State.putStatus_isr (s : State) (i : Nat) (b : Bool) : (s.putStatus i b).isr = s.isr := rfl
@[simp] theorem State.putStatus_now (s : State) (i : Nat) (b : Bool) : (s.putStatus i b).now = s.now := rfl
@[simp] theorem State.putStatus_faulted (s : State) (i : Nat) (b : Bool) :
    (s.putStatus i b).faulted = s.faulted := rfl
@[simp] theorem State.putStatus_logs (s : State) (i : Nat) (b : Bool) : (s.putStatus i b).logs = s.logs := rfl
@[simp] theorem State.putStatus_mem (s : State) (i : Nat) (b : Bool) : (s.putStatus i b).mem = s.mem := rfl
@[simp] theorem State.putStatus_prog (s : State) (i : Nat) (b : Bool) : (s.putStatus i b).prog = s.prog := rfl
@[simp] theorem State.putStatus_windows (s : State) (i : Nat) (b : Bool) : (s.putStatus i b).windows = s.windows := rfl
@[simp] theorem State.putStatus_sched (s : State) (i : Nat) (b : Bool) : (s.putStatus i b).sched = s.sched := rfl
@[simp] theorem State.putStatus_draws (s : State) (i : Nat) (b : Bool) : (s.putStatus i b).draws = s.draws := rfl
@[simp] theorem State.putStatus_ret (s : State) (i : Nat) (b : Bool) : (s.putStatus i b).ret = s.ret := rfl

/-! ### `State.setCause` -/

@[simp] theorem State.setCause_dsi (s : State) (c : Cause) : (s.setCause c).dsi = s.dsi := rfl
@[simp] theorem State.setCause_link (s : State) (c : Cause) : (s.setCause c).link = s.link := rfl
@[simp] theorem State.setCause_irq (s : State) (c : Cause) :
    (s.setCause c).irq = { s.irq with status := putBit s.irq.status c.bit true } := rfl
@[simp] theorem State.setCause_tim (s : State) (c : Cause) : (s.setCause c).tim = s.tim := rfl
@[simp] theorem State.setCause_layers (s : State) (c : Cause) : (s.setCause c).layers = s.layers := rfl
@[simp] theorem State.setCause_frame (s : State) (c : Cause) : (s.setCause c).frame = s.frame := rfl
@[simp] theorem State.setCause_cb (s : State) (c : Cause) : (s.setCause c).cb = s.cb := rfl
@[simp] theorem State.setCause_phase (s : State) (c : Cause) : (s.setCause c).phase = s.phase := rfl
@[simp] theorem State.setCause_isr (s : State) (c : Cause) : (s.setCause c).isr = s.isr := rfl
@[simp] theorem State.setCause_now (s : State) (c : Cause) : (s.setCause c).now = s.now := rfl
@[simp] theorem State.setCause_faulted (s : State) (c : Cause) : (s.setCause c).faulted = s.faulted := rfl
@[simp] theorem State.setCause_logs (s : State) (c : Cause) : (s.setCause c).logs = s.logs := rfl
@[simp] theorem State.setCause_mem (s : State) (c : Cause) : (s.setCause c).mem = s.mem := rfl
@[simp] theorem State.setCause_prog (s : State) (c : Cause) : (s.setCause c).prog = s.prog := rfl
@[simp] theorem State.setCause_windows (s : State) (c : Cause) : (s.setCause c).windows = s.windows := rfl
@[simp] theorem State.setCause_sched (s : State) (c : Cause) : (s.setCause c).sched = s.sched := rfl
@[simp] theorem State.setCause_draws (s : State) (c : Cause) : (s.setCause c).draws = s.draws := rfl
@[simp] theorem State.setCause_ret (s : State) (c : Cause) : (s.setCause c).ret = s.ret := rfl

/-! ### `State.clearCause` -/

@[simp] theorem State.clearCause_dsi (s : State) (c : Cause) : (s.clearCause c).dsi = s.dsi := rfl
@[simp] theorem State.clearCause_link (s : State) (c : Cause) : (s.clearCause c).link = s.link := rfl
@[simp] theorem State.clearCause_irq (s : State) (c : Cause) :
    (s.clearCause c).irq = { s.irq with status := putBit s.irq.status c.bit false } := rfl
@[simp] theorem State.clearCause_tim (s : State) (c : Cause) : (s.clearCause c).tim = s.tim := rfl
@[simp] theorem State.clearCause_layers (s : State) (c : Cause) : (s.clearCause c).layers = s.layers := rfl
@[simp] theorem State.clearCause_frame (s : State) (c : Cause) : (s.clearCause c).frame = s.frame := rfl
@[simp] theorem State.clearCause_cb (s : State) (c : Cause) : (s.clearCause c).cb = s.cb := rfl
@[simp] theorem State.clearCause_phase (s : State) (c : Cause) : (s.clearCause c).phase = s.phase := rfl
@[simp] theorem State.clearCause_isr (s : State) (c : Cause) : (s.clearCause c).isr = s.isr := rfl
@[simp] theorem State.clearCause_now (s : State) (c : Cause) : (s.clearCause c).now = s.now := rfl
@[simp] theorem State.clearCause_faulted (s : State) (c : Cause) : (s.clearCause c).faulted = s.faulted := rfl
@[simp] theorem State.clearCause_logs (s : State) (c : Cause) : (s.clearCause c).logs = s.logs := rfl
@[simp] theorem State.clearCause_mem (s : State) (c : Cause) : (s.clearCause c).mem = s.mem := rfl
@[simp] theorem State.clearCause_prog (s : State) (c : Cause) : (s.clearCause c).prog = s.prog := rfl
@[simp] theorem State.clearCause_windows (s : State) (c : Cause) : (s.clearCause c).windows = s.windows := rfl
@[simp] theorem State.clearCause_sched (s : State) (c : Cause) : (s.clearCause c).sched = s.sched := rfl
@[simp] theorem State.clearCause_draws (s : State) (c : Cause) : (s.clearCause c).draws = s.draws := rfl
@[simp] theorem State.clearCause_ret (s : State) (c : Cause) : (s.clearCause c).ret = s.ret := rfl

/-! ### `State.clearStatus` -/

@[simp] theorem State.clearStatus_dsi (s : State) (m : Word) : (s.clearStatus m).dsi = s.dsi := rfl
@[simp] theorem State.clearStatus_link (s : State) (m : Word) : (s.clearStatus m).link = s.link := rfl
@[simp] theorem State.clearStatus_irq (s : State) (m : Word) :
    (s.clearStatus m).irq = { s.irq with status := w1c s.irq.status m } := rfl
@[simp] theorem State.clearStatus_tim (s : State) (m : Word) : (s.clearStatus m).tim = s.tim := rfl
@[simp] theorem State.clearStatus_layers (s : State) (m : Word) : (s.clearStatus m).layers = s.layers := rfl
@[simp] theorem State.clearStatus_frame (s : State) (m : Word) : (s.clearStatus m).frame = s.frame := rfl
@[simp] theorem State.clearStatus_cb (s : State) (m : Word) : (s.clearStatus m).cb = s.cb := rfl
@[simp] theorem State.clearStatus_phase (s : State) (m : Word) : (s.clearStatus m).phase = s.phase := rfl
@[simp] theorem State.clearStatus_isr (s : State) (m : Word) : (s.clearStatus m).isr = s.isr := rfl
@[simp] theorem State.clearStatus_now (s : State) (m : Word) : (s.clearStatus m).now = s.now := rfl
@[simp] theorem State.clearStatus_faulted (s : State) (m : Word) : (s.clearStatus m).faulted = s.faulted := rfl
@[simp] theorem State.clearStatus_logs (s : State) (m : Word) : (s.clearStatus m).logs = s.logs := rfl
@[simp] theorem State.clearStatus_mem (s : State) (m : Word) : (s.clearStatus m).mem = s.mem := rfl
@[simp] theorem State.clearStatus_prog (s : State) (m : Word) : (s.clearStatus m).prog = s.prog := rfl
@[simp] theorem State.clearStatus_windows (s : State) (m : Word) : (s.clearStatus m).windows = s.windows := rfl
@[simp] theorem State.clearStatus_sched (s : State) (m : Word) : (s.clearStatus m).sched = s.sched := rfl
@[simp] theorem State.clearStatus_draws (s : State) (m : Word) : (s.clearStatus m).draws = s.draws := rfl
@[simp] theorem State.clearStatus_ret (s : State) (m : Word) : (s.clearStatus m).ret = s.ret := rfl

/-! ### `State.putEnable` -/

@[simp] theorem State.putEnable_dsi (s : State) (w : Word) : (s.putEnable w).dsi = s.dsi := rfl
@[simp] theorem State.putEnable_link (s : State) (w : Word) : (s.putEnable w).link = s.link := rfl
@[simp] theorem State.putEnable_irq (s : State) (w : Word) : (s.putEnable w).irq = { s.irq with enable := w } := rfl
@[simp] theorem State.putEnable_tim (s : State) (w : Word) : (s.putEnable w).tim = s.tim := rfl
@[simp] theorem State.putEnable_layers (s : State) (w : Word) : (s.putEnable w).layers = s.layers := rfl
@[simp] theorem State.putEnable_frame (s : State) (w : Word) : (s.putEnable w).frame = s.frame := rfl
@[simp] theorem State.putEnable_cb (s : State) (w : Word) : (s.putEnable w).cb = s.cb := rfl
@[simp] theorem State.putEnable_phase (s : State) (w : Word) : (s.putEnable w).phase = s.phase := rfl
@[simp] theorem State.putEnable_isr (s : State) (w : Word) : (s.putEnable w).isr = s.isr := rfl
@[simp] theorem State.putEnable_now (s : State) (w : Word) : (s.putEnable w).now = s.now := rfl
@[simp] theorem State.putEnable_faulted (s : State) (w : Word) : (s.putEnable w).faulted = s.faulted := rfl
@[simp] theorem State.putEnable_logs (s : State) (w : Word) : (s.putEnable w).logs = s.logs := rfl
@[simp] theorem State.putEnable_mem (s : State) (w : Word) : (s.putEnable w).mem = s.mem := rfl
@[simp] theorem State.putEnable_prog (s : State) (w : Word) : (s.putEnable w).prog = s.prog := rfl
@[simp] theorem State.putEnable_windows (s : State) (w : Word) : (s.putEnable w).windows = s.windows := rfl
@[simp] theorem State.putEnable_sched (s : State) (w : Word) : (s.putEnable w).sched = s.sched := rfl
@[simp] theorem State.putEnable_draws (s : State) (w : Word) : (s.putEnable w).draws = s.draws := rfl
@[simp] theorem State.putEnable_ret (s : State) (w : Word) : (s.putEnable w).ret = s.ret := rfl

/-! ### `State.endJob` -/

@[simp] theorem State.endJob_dsi (s : State) (d : DataLane) : (s.endJob d).dsi = s.dsi := rfl
@[simp] theorem State.endJob_link (s : State) (d : DataLane) :
    (s.endJob d).link = { s.link with data := d, job := none } := rfl
@[simp] theorem State.endJob_irq (s : State) (d : DataLane) : (s.endJob d).irq = s.irq := rfl
@[simp] theorem State.endJob_tim (s : State) (d : DataLane) : (s.endJob d).tim = s.tim := rfl
@[simp] theorem State.endJob_layers (s : State) (d : DataLane) : (s.endJob d).layers = s.layers := rfl
@[simp] theorem State.endJob_frame (s : State) (d : DataLane) : (s.endJob d).frame = s.frame := rfl
@[simp] theorem State.endJob_cb (s : State) (d : DataLane) : (s.endJob d).cb = s.cb := rfl
@[simp] theorem State.endJob_phase (s : State) (d : DataLane) : (s.endJob d).phase = s.phase := rfl
@[simp] theorem State.endJob_isr (s : State) (d : DataLane) : (s.endJob d).isr = s.isr := rfl
@[simp] theorem State.endJob_now (s : State) (d : DataLane) : (s.endJob d).now = s.now := rfl
@[simp] theorem State.endJob_faulted (s : State) (d : DataLane) : (s.endJob d).faulted = s.faulted := rfl
@[simp] theorem State.endJob_logs (s : State) (d : DataLane) : (s.endJob d).logs = s.logs := rfl
@[simp] theorem State.endJob_mem (s : State) (d : DataLane) : (s.endJob d).mem = s.mem := rfl
@[simp] theorem State.endJob_prog (s : State) (d : DataLane) : (s.endJob d).prog = s.prog := rfl
@[simp] theorem State.endJob_windows (s : State) (d : DataLane) : (s.endJob d).windows = s.windows := rfl
@[simp] theorem State.endJob_sched (s : State) (d : DataLane) : (s.endJob d).sched = s.sched := rfl
@[simp] theorem State.endJob_draws (s : State) (d : DataLane) : (s.endJob d).draws = s.draws := rfl
@[simp] theorem State.endJob_ret (s : State) (d : DataLane) : (s.endJob d).ret = s.ret := rfl

/-! ### `State.wrPush` -/

@[simp] theorem State.wrPush_dsi (s : State) (w : Word) : (s.wrPush w).dsi = s.dsi := rfl
@[simp] theorem State.wrPush_link (s : State) (w : Word) :
    (s.wrPush w).link = { s.link with wrArray := s.link.wrArray ++ [w] } := rfl
@[simp] theorem State.wrPush_irq (s : State) (w : Word) : (s.wrPush w).irq = s.irq := rfl
@[simp] theorem State.wrPush_tim (s : State) (w : Word) : (s.wrPush w).tim = s.tim := rfl
@[simp] theorem State.wrPush_layers (s : State) (w : Word) : (s.wrPush w).layers = s.layers := rfl
@[simp] theorem State.wrPush_frame (s : State) (w : Word) : (s.wrPush w).frame = s.frame := rfl
@[simp] theorem State.wrPush_cb (s : State) (w : Word) : (s.wrPush w).cb = s.cb := rfl
@[simp] theorem State.wrPush_phase (s : State) (w : Word) : (s.wrPush w).phase = s.phase := rfl
@[simp] theorem State.wrPush_isr (s : State) (w : Word) : (s.wrPush w).isr = s.isr := rfl
@[simp] theorem State.wrPush_now (s : State) (w : Word) : (s.wrPush w).now = s.now := rfl
@[simp] theorem State.wrPush_faulted (s : State) (w : Word) : (s.wrPush w).faulted = s.faulted := rfl
@[simp] theorem State.wrPush_logs (s : State) (w : Word) : (s.wrPush w).logs = s.logs := rfl
@[simp] theorem State.wrPush_mem (s : State) (w : Word) : (s.wrPush w).mem = s.mem := rfl
@[simp] theorem State.wrPush_prog (s : State) (w : Word) : (s.wrPush w).prog = s.prog := rfl
@[simp] theorem State.wrPush_windows (s : State) (w : Word) : (s.wrPush w).windows = s.windows := rfl
@[simp] theorem State.wrPush_sched (s : State) (w : Word) : (s.wrPush w).sched = s.sched := rfl
@[simp] theorem State.wrPush_draws (s : State) (w : Word) : (s.wrPush w).draws = s.draws := rfl
@[simp] theorem State.wrPush_ret (s : State) (w : Word) : (s.wrPush w).ret = s.ret := rfl

/-! ### `State.putLayer` -/

@[simp] theorem State.putLayer_dsi (s : State) (l : Layer) (L : LayerState) : (s.putLayer l L).dsi = s.dsi := rfl
@[simp] theorem State.putLayer_link (s : State) (l : Layer) (L : LayerState) : (s.putLayer l L).link = s.link := rfl
@[simp] theorem State.putLayer_irq (s : State) (l : Layer) (L : LayerState) : (s.putLayer l L).irq = s.irq := rfl
@[simp] theorem State.putLayer_tim (s : State) (l : Layer) (L : LayerState) : (s.putLayer l L).tim = s.tim := rfl
@[simp] theorem State.putLayer_layers (s : State) (l : Layer) (L : LayerState) :
    (s.putLayer l L).layers = s.layers.set l L := rfl
@[simp] theorem State.putLayer_frame (s : State) (l : Layer) (L : LayerState) :
    (s.putLayer l L).frame = s.frame := rfl
@[simp] theorem State.putLayer_cb (s : State) (l : Layer) (L : LayerState) : (s.putLayer l L).cb = s.cb := rfl
@[simp] theorem State.putLayer_phase (s : State) (l : Layer) (L : LayerState) :
    (s.putLayer l L).phase = s.phase := rfl
@[simp] theorem State.putLayer_isr (s : State) (l : Layer) (L : LayerState) : (s.putLayer l L).isr = s.isr := rfl
@[simp] theorem State.putLayer_now (s : State) (l : Layer) (L : LayerState) : (s.putLayer l L).now = s.now := rfl
@[simp] theorem State.putLayer_faulted (s : State) (l : Layer) (L : LayerState) :
    (s.putLayer l L).faulted = s.faulted := rfl
@[simp] theorem State.putLayer_logs (s : State) (l : Layer) (L : LayerState) : (s.putLayer l L).logs = s.logs := rfl
@[simp] theorem State.putLayer_mem (s : State) (l : Layer) (L : LayerState) : (s.putLayer l L).mem = s.mem := rfl
@[simp] theorem State.putLayer_prog (s : State) (l : Layer) (L : LayerState) : (s.putLayer l L).prog = s.prog := rfl
@[simp] theorem State.putLayer_windows (s : State) (l : Layer) (L : LayerState) : (s.putLayer l L).windows = s.windows := rfl
@[simp] theorem State.putLayer_sched (s : State) (l : Layer) (L : LayerState) :
    (s.putLayer l L).sched = s.sched := rfl
@[simp] theorem State.putLayer_draws (s : State) (l : Layer) (L : LayerState) :
    (s.putLayer l L).draws = s.draws := rfl
@[simp] theorem State.putLayer_ret (s : State) (l : Layer) (L : LayerState) : (s.putLayer l L).ret = s.ret := rfl

/-! ### `State.pushWork` -/

@[simp] theorem State.pushWork_dsi (s : State) (items : List Action) : (s.pushWork items).dsi = s.dsi := rfl
@[simp] theorem State.pushWork_link (s : State) (items : List Action) : (s.pushWork items).link = s.link := rfl
@[simp] theorem State.pushWork_irq (s : State) (items : List Action) : (s.pushWork items).irq = s.irq := rfl
@[simp] theorem State.pushWork_tim (s : State) (items : List Action) : (s.pushWork items).tim = s.tim := rfl
@[simp] theorem State.pushWork_layers (s : State) (items : List Action) : (s.pushWork items).layers = s.layers := rfl
@[simp] theorem State.pushWork_frame (s : State) (items : List Action) : (s.pushWork items).frame = s.frame := rfl
@[simp] theorem State.pushWork_cb (s : State) (items : List Action) : (s.pushWork items).cb = s.cb := rfl
@[simp] theorem State.pushWork_phase (s : State) (items : List Action) : (s.pushWork items).phase = s.phase := rfl
@[simp] theorem State.pushWork_isr (s : State) (items : List Action) :
    (s.pushWork items).isr = { s.isr with work := s.isr.work ++ items } := rfl
@[simp] theorem State.pushWork_now (s : State) (items : List Action) : (s.pushWork items).now = s.now := rfl
@[simp] theorem State.pushWork_faulted (s : State) (items : List Action) :
    (s.pushWork items).faulted = s.faulted := rfl
@[simp] theorem State.pushWork_logs (s : State) (items : List Action) : (s.pushWork items).logs = s.logs := rfl
@[simp] theorem State.pushWork_mem (s : State) (items : List Action) : (s.pushWork items).mem = s.mem := rfl
@[simp] theorem State.pushWork_prog (s : State) (items : List Action) : (s.pushWork items).prog = s.prog := rfl
@[simp] theorem State.pushWork_windows (s : State) (items : List Action) : (s.pushWork items).windows = s.windows := rfl
@[simp] theorem State.pushWork_sched (s : State) (items : List Action) : (s.pushWork items).sched = s.sched := rfl
@[simp] theorem State.pushWork_draws (s : State) (items : List Action) : (s.pushWork items).draws = s.draws := rfl
@[simp] theorem State.pushWork_ret (s : State) (items : List Action) : (s.pushWork items).ret = s.ret := rfl

/-! ### `State.latch` -/

@[simp] theorem State.latch_dsi (s : State) : (s.latch).dsi = s.dsi := rfl
@[simp] theorem State.latch_link (s : State) : (s.latch).link = s.link := rfl
@[simp] theorem State.latch_irq (s : State) : (s.latch).irq = s.irq := rfl
@[simp] theorem State.latch_tim (s : State) : (s.latch).tim = s.tim := rfl
@[simp] theorem State.latch_layers (s : State) :
    (s.latch).layers = PerLayer.tabulate (fun l => { s.layers.get l with act := some (s.layers.get l).sh }) := rfl
@[simp] theorem State.latch_frame (s : State) : (s.latch).frame = s.frame := rfl
@[simp] theorem State.latch_cb (s : State) : (s.latch).cb = s.cb := rfl
@[simp] theorem State.latch_phase (s : State) : (s.latch).phase = s.phase := rfl
@[simp] theorem State.latch_isr (s : State) : (s.latch).isr = s.isr := rfl
@[simp] theorem State.latch_now (s : State) : (s.latch).now = s.now := rfl
@[simp] theorem State.latch_faulted (s : State) : (s.latch).faulted = s.faulted := rfl
@[simp] theorem State.latch_logs (s : State) : (s.latch).logs = s.logs := rfl
@[simp] theorem State.latch_mem (s : State) : (s.latch).mem = s.mem := rfl
@[simp] theorem State.latch_prog (s : State) : (s.latch).prog = s.prog := rfl
@[simp] theorem State.latch_windows (s : State) : (s.latch).windows = s.windows := rfl
@[simp] theorem State.latch_sched (s : State) : (s.latch).sched = s.sched := rfl
@[simp] theorem State.latch_draws (s : State) : (s.latch).draws = s.draws := rfl
@[simp] theorem State.latch_ret (s : State) : (s.latch).ret = s.ret := rfl

/-! ### `State.setWords` -/

@[simp] theorem State.setWords_dsi (s : State) (ws : List Word) : (s.setWords ws).dsi = s.dsi := rfl
@[simp] theorem State.setWords_link (s : State) (ws : List Word) : (s.setWords ws).link = s.link := rfl
@[simp] theorem State.setWords_irq (s : State) (ws : List Word) : (s.setWords ws).irq = s.irq := rfl
@[simp] theorem State.setWords_tim (s : State) (ws : List Word) : (s.setWords ws).tim = s.tim := rfl
@[simp] theorem State.setWords_layers (s : State) (ws : List Word) : (s.setWords ws).layers = s.layers := rfl
@[simp] theorem State.setWords_frame (s : State) (ws : List Word) : (s.setWords ws).frame = s.frame := rfl
@[simp] theorem State.setWords_cb (s : State) (ws : List Word) : (s.setWords ws).cb = s.cb := rfl
@[simp] theorem State.setWords_phase (s : State) (ws : List Word) : (s.setWords ws).phase = s.phase := rfl
@[simp] theorem State.setWords_isr (s : State) (ws : List Word) : (s.setWords ws).isr = s.isr := rfl
@[simp] theorem State.setWords_now (s : State) (ws : List Word) : (s.setWords ws).now = s.now := rfl
@[simp] theorem State.setWords_faulted (s : State) (ws : List Word) : (s.setWords ws).faulted = s.faulted := rfl
@[simp] theorem State.setWords_logs (s : State) (ws : List Word) : (s.setWords ws).logs = s.logs := rfl
@[simp] theorem State.setWords_mem (s : State) (ws : List Word) : (s.setWords ws).mem = s.mem := rfl
@[simp] theorem State.setWords_windows (s : State) (ws : List Word) : (s.setWords ws).windows = s.windows := rfl
@[simp] theorem State.setWords_prog (s : State) (ws : List Word) :
    (s.setWords ws).prog = { s.prog with words := ws } := rfl
@[simp] theorem State.setWords_sched (s : State) (ws : List Word) : (s.setWords ws).sched = s.sched := rfl
@[simp] theorem State.setWords_draws (s : State) (ws : List Word) : (s.setWords ws).draws = s.draws := rfl
@[simp] theorem State.setWords_ret (s : State) (ws : List Word) : (s.setWords ws).ret = s.ret := rfl

/-! ### `State.stopLanes` -/

@[simp] theorem State.stopLanes_dsi (s : State) : (s.stopLanes).dsi = s.dsi := rfl
@[simp] theorem State.stopLanes_link (s : State) : (s.stopLanes).link = { s.link with data := .stop } := rfl
@[simp] theorem State.stopLanes_irq (s : State) : (s.stopLanes).irq = s.irq := rfl
@[simp] theorem State.stopLanes_tim (s : State) : (s.stopLanes).tim = s.tim := rfl
@[simp] theorem State.stopLanes_layers (s : State) : (s.stopLanes).layers = s.layers := rfl
@[simp] theorem State.stopLanes_frame (s : State) : (s.stopLanes).frame = s.frame := rfl
@[simp] theorem State.stopLanes_cb (s : State) : (s.stopLanes).cb = s.cb := rfl
@[simp] theorem State.stopLanes_phase (s : State) : (s.stopLanes).phase = s.phase := rfl
@[simp] theorem State.stopLanes_isr (s : State) : (s.stopLanes).isr = s.isr := rfl
@[simp] theorem State.stopLanes_now (s : State) : (s.stopLanes).now = s.now := rfl
@[simp] theorem State.stopLanes_faulted (s : State) : (s.stopLanes).faulted = s.faulted := rfl
@[simp] theorem State.stopLanes_logs (s : State) : (s.stopLanes).logs = s.logs := rfl
@[simp] theorem State.stopLanes_mem (s : State) : (s.stopLanes).mem = s.mem := rfl
@[simp] theorem State.stopLanes_prog (s : State) : (s.stopLanes).prog = s.prog := rfl
@[simp] theorem State.stopLanes_windows (s : State) : (s.stopLanes).windows = s.windows := rfl
@[simp] theorem State.stopLanes_sched (s : State) : (s.stopLanes).sched = s.sched := rfl
@[simp] theorem State.stopLanes_draws (s : State) : (s.stopLanes).draws = s.draws := rfl
@[simp] theorem State.stopLanes_ret (s : State) : (s.stopLanes).ret = s.ret := rfl

/-! ### `State.maskFatal` -/

@[simp] theorem State.maskFatal_dsi (s : State) (w : Word) : (s.maskFatal w).dsi = s.dsi := rfl
@[simp] theorem State.maskFatal_link (s : State) (w : Word) : (s.maskFatal w).link = s.link := rfl
@[simp] theorem State.maskFatal_irq (s : State) (w : Word) :
    (s.maskFatal w).irq = { s.irq with fatalMasked := s.irq.fatalMasked ||| w.extractLsb' 7 2, enable := s.irq.enable &&& ~~~w } := rfl
@[simp] theorem State.maskFatal_tim (s : State) (w : Word) : (s.maskFatal w).tim = s.tim := rfl
@[simp] theorem State.maskFatal_layers (s : State) (w : Word) : (s.maskFatal w).layers = s.layers := rfl
@[simp] theorem State.maskFatal_frame (s : State) (w : Word) : (s.maskFatal w).frame = s.frame := rfl
@[simp] theorem State.maskFatal_cb (s : State) (w : Word) : (s.maskFatal w).cb = s.cb := rfl
@[simp] theorem State.maskFatal_phase (s : State) (w : Word) : (s.maskFatal w).phase = s.phase := rfl
@[simp] theorem State.maskFatal_isr (s : State) (w : Word) : (s.maskFatal w).isr = s.isr := rfl
@[simp] theorem State.maskFatal_now (s : State) (w : Word) : (s.maskFatal w).now = s.now := rfl
@[simp] theorem State.maskFatal_faulted (s : State) (w : Word) : (s.maskFatal w).faulted = s.faulted := rfl
@[simp] theorem State.maskFatal_logs (s : State) (w : Word) : (s.maskFatal w).logs = s.logs := rfl
@[simp] theorem State.maskFatal_mem (s : State) (w : Word) : (s.maskFatal w).mem = s.mem := rfl
@[simp] theorem State.maskFatal_prog (s : State) (w : Word) : (s.maskFatal w).prog = s.prog := rfl
@[simp] theorem State.maskFatal_windows (s : State) (w : Word) : (s.maskFatal w).windows = s.windows := rfl
@[simp] theorem State.maskFatal_sched (s : State) (w : Word) : (s.maskFatal w).sched = s.sched := rfl
@[simp] theorem State.maskFatal_draws (s : State) (w : Word) : (s.maskFatal w).draws = s.draws := rfl
@[simp] theorem State.maskFatal_ret (s : State) (w : Word) : (s.maskFatal w).ret = s.ret := rfl

/-! ### `State.enterHandler` -/

@[simp] theorem State.enterHandler_dsi (s : State) : (s.enterHandler).dsi = s.dsi := rfl
@[simp] theorem State.enterHandler_link (s : State) : (s.enterHandler).link = s.link := rfl
@[simp] theorem State.enterHandler_irq (s : State) : (s.enterHandler).irq = s.irq := rfl
@[simp] theorem State.enterHandler_tim (s : State) : (s.enterHandler).tim = s.tim := rfl
@[simp] theorem State.enterHandler_layers (s : State) : (s.enterHandler).layers = s.layers := rfl
@[simp] theorem State.enterHandler_frame (s : State) : (s.enterHandler).frame = s.frame := rfl
@[simp] theorem State.enterHandler_cb (s : State) : (s.enterHandler).cb = s.cb := rfl
@[simp] theorem State.enterHandler_phase (s : State) : (s.enterHandler).phase = s.phase := rfl
@[simp] theorem State.enterHandler_isr (s : State) : (s.enterHandler).isr = { active := true, work := [] } := rfl
@[simp] theorem State.enterHandler_now (s : State) : (s.enterHandler).now = s.now := rfl
@[simp] theorem State.enterHandler_faulted (s : State) : (s.enterHandler).faulted = s.faulted := rfl
@[simp] theorem State.enterHandler_logs (s : State) : (s.enterHandler).logs = s.logs := rfl
@[simp] theorem State.enterHandler_mem (s : State) : (s.enterHandler).mem = s.mem := rfl
@[simp] theorem State.enterHandler_prog (s : State) : (s.enterHandler).prog = s.prog := rfl
@[simp] theorem State.enterHandler_windows (s : State) : (s.enterHandler).windows = s.windows := rfl
@[simp] theorem State.enterHandler_sched (s : State) : (s.enterHandler).sched = s.sched := rfl
@[simp] theorem State.enterHandler_draws (s : State) : (s.enterHandler).draws = s.draws := rfl
@[simp] theorem State.enterHandler_ret (s : State) : (s.enterHandler).ret = s.ret := rfl

/-! ### `State.enterScan` -/

@[simp] theorem State.enterScan_dsi (s : State) (sc : Scan) : (s.enterScan sc).dsi = s.dsi := rfl
@[simp] theorem State.enterScan_link (s : State) (sc : Scan) :
    (s.enterScan sc).link = { s.link with data := .hsFrame, clk := .hs } := rfl
@[simp] theorem State.enterScan_irq (s : State) (sc : Scan) : (s.enterScan sc).irq = s.irq := rfl
@[simp] theorem State.enterScan_tim (s : State) (sc : Scan) : (s.enterScan sc).tim = s.tim := rfl
@[simp] theorem State.enterScan_layers (s : State) (sc : Scan) : (s.enterScan sc).layers = s.layers := rfl
@[simp] theorem State.enterScan_frame (s : State) (sc : Scan) :
    (s.enterScan sc).frame = { s.frame with scan := some sc, valid := false, fsm := .scanning } := rfl
@[simp] theorem State.enterScan_cb (s : State) (sc : Scan) : (s.enterScan sc).cb = s.cb := rfl
@[simp] theorem State.enterScan_phase (s : State) (sc : Scan) : (s.enterScan sc).phase = s.phase := rfl
@[simp] theorem State.enterScan_isr (s : State) (sc : Scan) : (s.enterScan sc).isr = s.isr := rfl
@[simp] theorem State.enterScan_now (s : State) (sc : Scan) : (s.enterScan sc).now = s.now := rfl
@[simp] theorem State.enterScan_faulted (s : State) (sc : Scan) : (s.enterScan sc).faulted = s.faulted := rfl
@[simp] theorem State.enterScan_logs (s : State) (sc : Scan) : (s.enterScan sc).logs = s.logs := rfl
@[simp] theorem State.enterScan_mem (s : State) (sc : Scan) : (s.enterScan sc).mem = s.mem := rfl
@[simp] theorem State.enterScan_prog (s : State) (sc : Scan) : (s.enterScan sc).prog = s.prog := rfl
@[simp] theorem State.enterScan_windows (s : State) (sc : Scan) : (s.enterScan sc).windows = s.windows := rfl
@[simp] theorem State.enterScan_sched (s : State) (sc : Scan) : (s.enterScan sc).sched = s.sched := rfl
@[simp] theorem State.enterScan_draws (s : State) (sc : Scan) : (s.enterScan sc).draws = s.draws := rfl
@[simp] theorem State.enterScan_ret (s : State) (sc : Scan) : (s.enterScan sc).ret = s.ret := rfl

/-! ### `State.rearm` -/

@[simp] theorem State.rearm_dsi (s : State) : (s.rearm).dsi = s.dsi := rfl
@[simp] theorem State.rearm_link (s : State) : (s.rearm).link = s.link := rfl
@[simp] theorem State.rearm_irq (s : State) : (s.rearm).irq = s.irq := rfl
@[simp] theorem State.rearm_tim (s : State) : (s.rearm).tim = s.tim := rfl
@[simp] theorem State.rearm_layers (s : State) : (s.rearm).layers = s.layers := rfl
@[simp] theorem State.rearm_frame (s : State) :
    (s.rearm).frame = { s.frame with fsm := if s.frame.arm = .te then .armedHardwareTE else .frameDone } := rfl
@[simp] theorem State.rearm_cb (s : State) : (s.rearm).cb = s.cb := rfl
@[simp] theorem State.rearm_phase (s : State) : (s.rearm).phase = s.phase := rfl
@[simp] theorem State.rearm_isr (s : State) : (s.rearm).isr = s.isr := rfl
@[simp] theorem State.rearm_now (s : State) : (s.rearm).now = s.now := rfl
@[simp] theorem State.rearm_faulted (s : State) : (s.rearm).faulted = s.faulted := rfl
@[simp] theorem State.rearm_logs (s : State) : (s.rearm).logs = s.logs := rfl
@[simp] theorem State.rearm_mem (s : State) : (s.rearm).mem = s.mem := rfl
@[simp] theorem State.rearm_prog (s : State) : (s.rearm).prog = s.prog := rfl
@[simp] theorem State.rearm_windows (s : State) : (s.rearm).windows = s.windows := rfl
@[simp] theorem State.rearm_sched (s : State) : (s.rearm).sched = s.sched := rfl
@[simp] theorem State.rearm_draws (s : State) : (s.rearm).draws = s.draws := rfl
@[simp] theorem State.rearm_ret (s : State) : (s.rearm).ret = s.ret := rfl

/-! ### `State.popChoice` -/

@[simp] theorem State.popChoice_dsi (s : State) : (s.popChoice).dsi = s.dsi := rfl
@[simp] theorem State.popChoice_link (s : State) : (s.popChoice).link = s.link := rfl
@[simp] theorem State.popChoice_irq (s : State) : (s.popChoice).irq = s.irq := rfl
@[simp] theorem State.popChoice_tim (s : State) : (s.popChoice).tim = s.tim := rfl
@[simp] theorem State.popChoice_layers (s : State) : (s.popChoice).layers = s.layers := rfl
@[simp] theorem State.popChoice_frame (s : State) : (s.popChoice).frame = s.frame := rfl
@[simp] theorem State.popChoice_cb (s : State) : (s.popChoice).cb = s.cb := rfl
@[simp] theorem State.popChoice_phase (s : State) : (s.popChoice).phase = s.phase := rfl
@[simp] theorem State.popChoice_isr (s : State) : (s.popChoice).isr = s.isr := rfl
@[simp] theorem State.popChoice_now (s : State) : (s.popChoice).now = s.now := rfl
@[simp] theorem State.popChoice_faulted (s : State) : (s.popChoice).faulted = s.faulted := rfl
@[simp] theorem State.popChoice_logs (s : State) : (s.popChoice).logs = s.logs := rfl
@[simp] theorem State.popChoice_mem (s : State) : (s.popChoice).mem = s.mem := rfl
@[simp] theorem State.popChoice_prog (s : State) : (s.popChoice).prog = s.prog := rfl
@[simp] theorem State.popChoice_windows (s : State) : (s.popChoice).windows = s.windows := rfl
@[simp] theorem State.popChoice_sched (s : State) : (s.popChoice).sched = s.sched.tail := rfl
@[simp] theorem State.popChoice_draws (s : State) : (s.popChoice).draws = s.draws := rfl
@[simp] theorem State.popChoice_ret (s : State) : (s.popChoice).ret = s.ret := rfl

end Sys2Proof.Machine
end

