-- ==== Sys2Proof/Laws/Flags.lean ====
section
/-! SUPPORT. The status and enable words bit by bit: what a field write, a write-1-to-clear and the named masks do. -/

namespace Sys2Proof.Machine

theorem fieldWrite_one (w v : Word) (i : Nat) :
    fieldWrite w i 1 v = (w &&& ~~~(1#32 <<< i)) ||| ((v <<< i) &&& (1#32 <<< i)) := by
  have h : (1#32 <<< 1) - 1#32 = 1#32 := by decide
  simp only [fieldWrite, h]

theorem putBit_false (w : Word) (i : Nat) : putBit w i false = w &&& ~~~(1#32 <<< i) := by
  simp [putBit, fieldWrite_one]

theorem putBit_true (w : Word) (i : Nat) : putBit w i true = w ||| 1#32 <<< i := by
  simp only [putBit, if_true, fieldWrite_one, BitVec.and_self]
  apply BitVec.eq_of_getLsbD_eq
  intro j hj
  simp only [BitVec.getLsbD_or, BitVec.getLsbD_and, BitVec.getLsbD_not, hj, decide_true, Bool.true_and]
  cases w.getLsbD j <;> cases (1#32 <<< i).getLsbD j <;> rfl

theorem getLsbD_one_shift (i j : Nat) : (1#32 <<< i).getLsbD j = (decide (j < 32) && decide (j = i)) := by
  rw [← BitVec.twoPow_eq, BitVec.getLsbD_twoPow]
  by_cases h : j = i
  · subst h
    simp
  · simp [h, Ne.symm h]

/-- One bit written, every other bit kept (R133). -/
theorem getLsbD_putBit (w : Word) (i j : Nat) (b : Bool) (hi : i < 32) :
    (putBit w i b).getLsbD j = if j = i then b else w.getLsbD j := by
  by_cases hj : j < 32
  · cases b
    · simp only [putBit_false, BitVec.getLsbD_and, BitVec.getLsbD_not, getLsbD_one_shift, hj, decide_true,
        Bool.true_and]
      by_cases h : j = i <;> simp [h]
    · simp only [putBit_true, BitVec.getLsbD_or, getLsbD_one_shift, hj, decide_true, Bool.true_and]
      by_cases h : j = i <;> simp [h]
  · rw [BitVec.getLsbD_of_ge _ _ (by omega), BitVec.getLsbD_of_ge _ _ (by omega)]
    rw [if_neg (by omega)]

/-- Every cause has a bit below 14 (R70). -/
theorem Cause.bit_lt (c : Cause) : c.bit < 14 := by
  cases c with
  | frameDone l => cases l <;> decide
  | _ => decide

theorem layerNo_lt (l : Layer) : layerNo l < 4 := by cases l <;> decide

theorem doneChannelBit_lt (l : Layer) : 16 ≤ doneChannelBit l ∧ doneChannelBit l < 20 := by cases l <;> decide

theorem layerNo_injective {l l' : Layer} (h : layerNo l = layerNo l') : l = l' := by
  cases l <;> cases l' <;> first | rfl | exact absurd h (by decide)

theorem Cause.bit_injective {c c' : Cause} (h : c.bit = c'.bit) : c = c' := by
  cases c with
  | frameDone l =>
    cases c' with
    | frameDone l' => exact congrArg _ (layerNo_injective h)
    | _ => cases l <;> exact absurd h (by decide)
  | _ =>
    cases c' with
    | frameDone l' => cases l' <;> exact absurd h (by decide)
    | _ => first | rfl | exact absurd h (by decide)

/-- A bit of the write-1-to-clear mask: bits 0 to 13 (R71). -/
theorem getLsbD_w1cMask (j : Nat) : w1cMask.getLsbD j = decide (j < 14) := by
  by_cases h : j < 32
  · interval_cases j <;> decide
  · rw [BitVec.getLsbD_of_ge _ _ (by omega)]
    simp
    omega

theorem getLsbD_enableMask (j : Nat) : enableMask.getLsbD j = decide (j < 9) := by
  by_cases h : j < 32
  · interval_cases j <;> decide
  · rw [BitVec.getLsbD_of_ge _ _ (by omega)]
    simp
    omega

/-- A write-1-to-clear clears each of bits 0 to 13 that is 1 in the operand and leaves every other bit (R71). -/
theorem getLsbD_w1c (w m : Word) (j : Nat) :
    (w1c w m).getLsbD j = (w.getLsbD j && !(m.getLsbD j && decide (j < 14))) := by
  by_cases h : j < 32
  · simp only [w1c, BitVec.getLsbD_and, BitVec.getLsbD_not, getLsbD_w1cMask, h, decide_true, Bool.true_and]
  · rw [BitVec.getLsbD_of_ge _ _ (by omega), BitVec.getLsbD_of_ge w _ (by omega)]
    simp

/-- The line is low exactly when no enabled bit 0 to 8 is set (R450). -/
theorem State.irqLine_eq_false (s : State) :
    s.irqLine = false ↔ ∀ j, j < 9 → (s.irq.status.getLsbD j && s.irq.enable.getLsbD j) = false := by
  simp only [State.irqLine, bne_eq_false_iff_eq]
  constructor
  · intro h j hj
    have := congrArg (fun w => BitVec.getLsbD w j) h
    simpa [BitVec.getLsbD_and, getLsbD_enableMask, hj] using this
  · intro h
    apply BitVec.eq_of_getLsbD_eq
    intro j hj
    simp only [BitVec.getLsbD_and, getLsbD_enableMask, BitVec.getLsbD_zero]
    by_cases h9 : j < 9
    · rw [h j h9]
      rfl
    · simp [h9]

end Sys2Proof.Machine
end

