-- ==== Sys2Proof/Laws/Frame.lean ====
section
/-! SUPPORT. The frame of each shared operation and of each agent's step: the parts of the state it leaves as they were,
in one lemma per operation. -/

namespace Sys2Proof.Machine

@[simp] theorem State.startJob_frame (s : State) (j : Job) :
    (s.startJob j).dsi = s.dsi ∧ (s.startJob j).tim = s.tim ∧ (s.startJob j).layers = s.layers ∧
    (s.startJob j).frame = s.frame ∧ (s.startJob j).cb = s.cb ∧ (s.startJob j).phase = s.phase ∧
    (s.startJob j).isr = s.isr ∧ (s.startJob j).now = s.now ∧ (s.startJob j).faulted = s.faulted ∧
    (s.startJob j).logs = s.logs ∧ (s.startJob j).mem = s.mem ∧ (s.startJob j).prog = s.prog ∧
    (s.startJob j).windows = s.windows ∧
    (s.startJob j).sched = s.sched ∧ (s.startJob j).draws = s.draws ∧ (s.startJob j).ret = s.ret := by
  generalize h : (s.startJob j) = t
  unfold State.startJob at h
  (repeat' split at h) <;> (subst h; simp)

@[simp] theorem rxPop_frame (s : State) :
    (rxPop s).2.dsi = s.dsi ∧ (rxPop s).2.irq = s.irq ∧ (rxPop s).2.tim = s.tim ∧ (rxPop s).2.layers = s.layers ∧
    (rxPop s).2.frame = s.frame ∧ (rxPop s).2.cb = s.cb ∧ (rxPop s).2.phase = s.phase ∧ (rxPop s).2.isr = s.isr ∧
    (rxPop s).2.now = s.now ∧ (rxPop s).2.faulted = s.faulted ∧ (rxPop s).2.logs = s.logs ∧
    (rxPop s).2.mem = s.mem ∧ (rxPop s).2.prog = s.prog ∧ (rxPop s).2.windows = s.windows ∧
    (rxPop s).2.sched = s.sched ∧ (rxPop s).2.ret = s.ret := by
  generalize h : (rxPop s).2 = t
  unfold rxPop at h
  (repeat' split at h) <;> (subst h; simp)

@[simp] theorem rxDiscard_frame (k : Nat) (s : State) :
    (rxDiscard k s).dsi = s.dsi ∧ (rxDiscard k s).irq = s.irq ∧ (rxDiscard k s).tim = s.tim ∧
    (rxDiscard k s).layers = s.layers ∧ (rxDiscard k s).frame = s.frame ∧ (rxDiscard k s).cb = s.cb ∧
    (rxDiscard k s).phase = s.phase ∧ (rxDiscard k s).isr = s.isr ∧ (rxDiscard k s).now = s.now ∧
    (rxDiscard k s).faulted = s.faulted ∧ (rxDiscard k s).logs = s.logs ∧ (rxDiscard k s).mem = s.mem ∧
    (rxDiscard k s).prog = s.prog ∧ (rxDiscard k s).windows = s.windows ∧ (rxDiscard k s).sched = s.sched ∧
    (rxDiscard k s).ret = s.ret := by
  induction k generalizing s with
  | zero => simp [rxDiscard]
  | succ n ih => simp [rxDiscard, ih]

@[simp] theorem State.writeShadow_frame (s : State) (l : Layer) (f : LayerCfg → LayerCfg) :
    (s.writeShadow l f).dsi = s.dsi ∧ (s.writeShadow l f).link = s.link ∧ (s.writeShadow l f).irq = s.irq ∧
    (s.writeShadow l f).tim = s.tim ∧ (s.writeShadow l f).frame = s.frame ∧ (s.writeShadow l f).cb = s.cb ∧
    (s.writeShadow l f).phase = s.phase ∧ (s.writeShadow l f).isr = s.isr ∧ (s.writeShadow l f).now = s.now ∧
    (s.writeShadow l f).faulted = s.faulted ∧ (s.writeShadow l f).logs = s.logs ∧ (s.writeShadow l f).mem = s.mem ∧
    (s.writeShadow l f).prog = s.prog ∧ (s.writeShadow l f).windows = s.windows ∧
    (s.writeShadow l f).sched = s.sched ∧ (s.writeShadow l f).draws = s.draws ∧
    (s.writeShadow l f).ret = s.ret := by
  simp [State.writeShadow]

@[simp] theorem State.tePulse_frame (s : State) :
    s.tePulse.dsi = s.dsi ∧ s.tePulse.link = s.link ∧ s.tePulse.tim = s.tim ∧ s.tePulse.layers = s.layers ∧
    s.tePulse.cb = s.cb ∧ s.tePulse.phase = s.phase ∧ s.tePulse.isr = s.isr ∧ s.tePulse.now = s.now ∧
    s.tePulse.faulted = s.faulted ∧ s.tePulse.logs = s.logs ∧ s.tePulse.mem = s.mem ∧ s.tePulse.prog = s.prog ∧
    s.tePulse.windows = s.windows ∧
    s.tePulse.sched = s.sched ∧ s.tePulse.draws = s.draws ∧ s.tePulse.ret = s.ret := by
  generalize h : s.tePulse = t
  unfold State.tePulse at h
  (repeat' split at h) <;> (subst h; simp)

@[simp] theorem State.forgetWb_frame (s : State) (sc : Scan) :
    (s.forgetWb sc).dsi = s.dsi ∧ (s.forgetWb sc).link = s.link ∧ (s.forgetWb sc).irq = s.irq ∧
    (s.forgetWb sc).tim = s.tim ∧ (s.forgetWb sc).layers = s.layers ∧ (s.forgetWb sc).frame = s.frame ∧
    (s.forgetWb sc).cb = s.cb ∧ (s.forgetWb sc).phase = s.phase ∧ (s.forgetWb sc).isr = s.isr ∧
    (s.forgetWb sc).now = s.now ∧ (s.forgetWb sc).faulted = s.faulted ∧ (s.forgetWb sc).logs = s.logs ∧
    (s.forgetWb sc).prog = s.prog ∧ (s.forgetWb sc).windows = s.windows ∧ (s.forgetWb sc).sched = s.sched ∧
    (s.forgetWb sc).draws = s.draws ∧
    (s.forgetWb sc).ret = s.ret := by
  generalize h : (s.forgetWb sc) = t
  unfold State.forgetWb at h
  (repeat' split at h) <;> (subst h; simp)

@[simp] theorem State.closeFrame_frame (s : State) (sc : Scan) (o : FrameOutcome) :
    (s.closeFrame sc o).dsi = s.dsi ∧ (s.closeFrame sc o).link = s.link ∧ (s.closeFrame sc o).irq = s.irq ∧
    (s.closeFrame sc o).tim = s.tim ∧ (s.closeFrame sc o).layers = s.layers ∧ (s.closeFrame sc o).cb = s.cb ∧
    (s.closeFrame sc o).phase = s.phase ∧ (s.closeFrame sc o).isr = s.isr ∧ (s.closeFrame sc o).now = s.now ∧
    (s.closeFrame sc o).faulted = s.faulted ∧ (s.closeFrame sc o).prog = s.prog ∧
    (s.closeFrame sc o).windows = s.windows ∧
    (s.closeFrame sc o).sched = s.sched ∧ (s.closeFrame sc o).draws = s.draws ∧ (s.closeFrame sc o).ret = s.ret := by
  simp [State.closeFrame]

@[simp] theorem State.endInFlight_frame (s : State) (o : FrameOutcome) :
    (s.endInFlight o).dsi = s.dsi ∧ (s.endInFlight o).link = s.link ∧ (s.endInFlight o).irq = s.irq ∧
    (s.endInFlight o).tim = s.tim ∧ (s.endInFlight o).layers = s.layers ∧ (s.endInFlight o).cb = s.cb ∧
    (s.endInFlight o).phase = s.phase ∧ (s.endInFlight o).isr = s.isr ∧ (s.endInFlight o).now = s.now ∧
    (s.endInFlight o).faulted = s.faulted ∧ (s.endInFlight o).prog = s.prog ∧ (s.endInFlight o).windows = s.windows ∧
    (s.endInFlight o).sched = s.sched ∧
    (s.endInFlight o).draws = s.draws ∧ (s.endInFlight o).ret = s.ret := by
  generalize h : (s.endInFlight o) = t
  unfold State.endInFlight at h
  (repeat' split at h) <;> (subst h; simp)

@[simp] theorem State.wrPushAll_frame (s : State) (ws : List Word) :
    (s.wrPushAll ws).dsi = s.dsi ∧ (s.wrPushAll ws).irq = s.irq ∧ (s.wrPushAll ws).tim = s.tim ∧
    (s.wrPushAll ws).layers = s.layers ∧ (s.wrPushAll ws).frame = s.frame ∧ (s.wrPushAll ws).cb = s.cb ∧
    (s.wrPushAll ws).phase = s.phase ∧ (s.wrPushAll ws).isr = s.isr ∧ (s.wrPushAll ws).now = s.now ∧
    (s.wrPushAll ws).faulted = s.faulted ∧ (s.wrPushAll ws).logs = s.logs ∧ (s.wrPushAll ws).mem = s.mem ∧
    (s.wrPushAll ws).prog = s.prog ∧ (s.wrPushAll ws).windows = s.windows ∧ (s.wrPushAll ws).sched = s.sched ∧
    (s.wrPushAll ws).draws = s.draws ∧
    (s.wrPushAll ws).ret = s.ret := by
  unfold State.wrPushAll
  induction ws generalizing s with
  | nil => simp
  | cons w ws ih => simp [ih]

@[simp] theorem State.queueFault_frame (s : State) (k : ErrKind) :
    (s.queueFault k).dsi = s.dsi ∧ (s.queueFault k).link = s.link ∧ (s.queueFault k).irq = s.irq ∧
    (s.queueFault k).tim = s.tim ∧ (s.queueFault k).layers = s.layers ∧ (s.queueFault k).frame = s.frame ∧
    (s.queueFault k).cb = s.cb ∧ (s.queueFault k).phase = s.phase ∧ (s.queueFault k).now = s.now ∧
    (s.queueFault k).faulted = s.faulted ∧ (s.queueFault k).mem = s.mem ∧ (s.queueFault k).prog = s.prog ∧
    (s.queueFault k).windows = s.windows ∧
    (s.queueFault k).sched = s.sched ∧ (s.queueFault k).draws = s.draws ∧ (s.queueFault k).ret = s.ret := by
  generalize h : (s.queueFault k) = t
  unfold State.queueFault at h
  (repeat' split at h) <;> (subst h; simp)

@[simp] theorem handleFatal_frame (w : Word) (s : State) :
    (handleFatal w s).dsi = s.dsi ∧ (handleFatal w s).link = s.link ∧ (handleFatal w s).tim = s.tim ∧
    (handleFatal w s).layers = s.layers ∧ (handleFatal w s).frame = s.frame ∧ (handleFatal w s).cb = s.cb ∧
    (handleFatal w s).phase = s.phase ∧ (handleFatal w s).now = s.now ∧ (handleFatal w s).faulted = s.faulted ∧
    (handleFatal w s).mem = s.mem ∧ (handleFatal w s).prog = s.prog ∧ (handleFatal w s).windows = s.windows ∧
    (handleFatal w s).sched = s.sched ∧
    (handleFatal w s).draws = s.draws ∧ (handleFatal w s).ret = s.ret := by
  generalize h : (handleFatal w s) = t
  unfold handleFatal at h
  (repeat' split at h) <;> (subst h; simp)

@[simp] theorem handleUnderflow_frame (w : Word) (s : State) :
    (handleUnderflow w s).dsi = s.dsi ∧ (handleUnderflow w s).link = s.link ∧ (handleUnderflow w s).tim = s.tim ∧
    (handleUnderflow w s).layers = s.layers ∧ (handleUnderflow w s).frame = s.frame ∧
    (handleUnderflow w s).cb = s.cb ∧ (handleUnderflow w s).phase = s.phase ∧ (handleUnderflow w s).isr = s.isr ∧
    (handleUnderflow w s).now = s.now ∧ (handleUnderflow w s).faulted = s.faulted ∧
    (handleUnderflow w s).mem = s.mem ∧ (handleUnderflow w s).prog = s.prog ∧
    (handleUnderflow w s).windows = s.windows ∧
    (handleUnderflow w s).sched = s.sched ∧ (handleUnderflow w s).draws = s.draws ∧
    (handleUnderflow w s).ret = s.ret := by
  generalize h : (handleUnderflow w s) = t
  unfold handleUnderflow at h
  (repeat' split at h) <;> (subst h; simp)

@[simp] theorem handleInfo_frame (w : Word) (i : Nat) (s : State) :
    (handleInfo w i s).dsi = s.dsi ∧ (handleInfo w i s).link = s.link ∧ (handleInfo w i s).tim = s.tim ∧
    (handleInfo w i s).layers = s.layers ∧ (handleInfo w i s).frame = s.frame ∧ (handleInfo w i s).cb = s.cb ∧
    (handleInfo w i s).phase = s.phase ∧ (handleInfo w i s).isr = s.isr ∧ (handleInfo w i s).now = s.now ∧
    (handleInfo w i s).faulted = s.faulted ∧ (handleInfo w i s).logs = s.logs ∧ (handleInfo w i s).mem = s.mem ∧
    (handleInfo w i s).prog = s.prog ∧ (handleInfo w i s).windows = s.windows ∧ (handleInfo w i s).sched = s.sched ∧
    (handleInfo w i s).draws = s.draws ∧
    (handleInfo w i s).ret = s.ret := by
  generalize h : (handleInfo w i s) = t
  unfold handleInfo at h
  (repeat' split at h) <;> (subst h; simp)

@[simp] theorem State.queueDone_frame (s : State) (l : Layer) (ch : Channel) :
    (s.queueDone l ch).dsi = s.dsi ∧ (s.queueDone l ch).link = s.link ∧ (s.queueDone l ch).irq = s.irq ∧
    (s.queueDone l ch).tim = s.tim ∧ (s.queueDone l ch).layers = s.layers ∧ (s.queueDone l ch).frame = s.frame ∧
    (s.queueDone l ch).cb = s.cb ∧ (s.queueDone l ch).phase = s.phase ∧ (s.queueDone l ch).now = s.now ∧
    (s.queueDone l ch).faulted = s.faulted ∧ (s.queueDone l ch).mem = s.mem ∧ (s.queueDone l ch).prog = s.prog ∧
    (s.queueDone l ch).windows = s.windows ∧
    (s.queueDone l ch).sched = s.sched ∧ (s.queueDone l ch).draws = s.draws ∧ (s.queueDone l ch).ret = s.ret := by
  generalize h : (s.queueDone l ch) = t
  unfold State.queueDone at h
  (repeat' split at h) <;> (subst h; simp)

@[simp] theorem handleDone_frame (x w : Word) (l : Layer) (s : State) :
    (handleDone x w l s).dsi = s.dsi ∧ (handleDone x w l s).link = s.link ∧ (handleDone x w l s).tim = s.tim ∧
    (handleDone x w l s).layers = s.layers ∧ (handleDone x w l s).frame = s.frame ∧
    (handleDone x w l s).cb = s.cb ∧ (handleDone x w l s).phase = s.phase ∧ (handleDone x w l s).now = s.now ∧
    (handleDone x w l s).faulted = s.faulted ∧ (handleDone x w l s).mem = s.mem ∧
    (handleDone x w l s).prog = s.prog ∧ (handleDone x w l s).windows = s.windows ∧
    (handleDone x w l s).sched = s.sched ∧
    (handleDone x w l s).draws = s.draws ∧ (handleDone x w l s).ret = s.ret := by
  generalize h : (handleDone x w l s) = t
  unfold handleDone at h
  (repeat' split at h) <;> (subst h; simp)

@[simp] theorem queueDefault_frame (b : Bool) (s : State) :
    (queueDefault b s).dsi = s.dsi ∧ (queueDefault b s).link = s.link ∧ (queueDefault b s).irq = s.irq ∧
    (queueDefault b s).tim = s.tim ∧ (queueDefault b s).layers = s.layers ∧ (queueDefault b s).frame = s.frame ∧
    (queueDefault b s).cb = s.cb ∧ (queueDefault b s).phase = s.phase ∧ (queueDefault b s).now = s.now ∧
    (queueDefault b s).faulted = s.faulted ∧ (queueDefault b s).logs = s.logs ∧ (queueDefault b s).mem = s.mem ∧
    (queueDefault b s).prog = s.prog ∧ (queueDefault b s).windows = s.windows ∧ (queueDefault b s).sched = s.sched ∧
    (queueDefault b s).draws = s.draws ∧
    (queueDefault b s).ret = s.ret := by
  generalize h : (queueDefault b s) = t
  unfold queueDefault at h
  (repeat' split at h) <;> (subst h; simp)

@[simp] theorem handlerEntry_frame (s : State) :
    (handlerEntry s).dsi = s.dsi ∧ (handlerEntry s).link = s.link ∧ (handlerEntry s).tim = s.tim ∧
    (handlerEntry s).layers = s.layers ∧ (handlerEntry s).frame = s.frame ∧ (handlerEntry s).cb = s.cb ∧
    (handlerEntry s).phase = s.phase ∧ (handlerEntry s).now = s.now ∧ (handlerEntry s).faulted = s.faulted ∧
    (handlerEntry s).mem = s.mem ∧ (handlerEntry s).prog = s.prog ∧ (handlerEntry s).windows = s.windows ∧
    (handlerEntry s).sched = s.sched ∧
    (handlerEntry s).draws = s.draws ∧ (handlerEntry s).ret = s.ret := by
  simp [handlerEntry]

@[simp] theorem handlerReturn_frame (s : State) :
    (handlerReturn s).dsi = s.dsi ∧ (handlerReturn s).link = s.link ∧ (handlerReturn s).irq = s.irq ∧
    (handlerReturn s).tim = s.tim ∧ (handlerReturn s).layers = s.layers ∧ (handlerReturn s).frame = s.frame ∧
    (handlerReturn s).cb = s.cb ∧ (handlerReturn s).phase = s.phase ∧ (handlerReturn s).now = s.now ∧
    (handlerReturn s).faulted = s.faulted ∧ (handlerReturn s).logs = s.logs ∧ (handlerReturn s).mem = s.mem ∧
    (handlerReturn s).prog = s.prog ∧ (handlerReturn s).windows = s.windows ∧ (handlerReturn s).sched = s.sched ∧
    (handlerReturn s).draws = s.draws ∧
    (handlerReturn s).ret = s.ret := by
  and_intros <;> rfl

@[simp] theorem State.phyReset_frame (s : State) :
    s.phyReset.dsi = s.dsi ∧ s.phyReset.tim = s.tim ∧ s.phyReset.layers = s.layers ∧ s.phyReset.frame = s.frame ∧
    s.phyReset.cb = s.cb ∧ s.phyReset.phase = s.phase ∧ s.phyReset.isr = s.isr ∧ s.phyReset.now = s.now ∧
    s.phyReset.faulted = s.faulted ∧ s.phyReset.logs = s.logs ∧ s.phyReset.mem = s.mem ∧ s.phyReset.prog = s.prog ∧
    s.phyReset.windows = s.windows ∧
    s.phyReset.sched = s.sched ∧ s.phyReset.draws = s.draws ∧ s.phyReset.ret = s.ret := by
  and_intros <;> rfl

@[simp] theorem dsiInit_frame (lanes : BitVec 4) (mode : DisplayMode) (bc pc : Word) (s : State) :
    (dsiInit lanes mode bc pc s).tim = s.tim ∧ (dsiInit lanes mode bc pc s).layers = s.layers ∧
    (dsiInit lanes mode bc pc s).frame = s.frame ∧ (dsiInit lanes mode bc pc s).cb = s.cb ∧
    (dsiInit lanes mode bc pc s).phase = s.phase ∧ (dsiInit lanes mode bc pc s).isr = s.isr ∧
    (dsiInit lanes mode bc pc s).now = s.now ∧ (dsiInit lanes mode bc pc s).logs = s.logs ∧
    (dsiInit lanes mode bc pc s).mem = s.mem ∧ (dsiInit lanes mode bc pc s).prog = s.prog ∧
    (dsiInit lanes mode bc pc s).windows = s.windows ∧
    (dsiInit lanes mode bc pc s).sched = s.sched ∧ (dsiInit lanes mode bc pc s).draws = s.draws := by
  generalize h : (dsiInit lanes mode bc pc s) = t
  unfold dsiInit at h
  (repeat' split at h) <;> (subst h; simp)

@[simp] theorem dsiSend_frame (cmd : Byte) (params : List Byte) (s : State) :
    (dsiSend cmd params s).dsi = s.dsi ∧ (dsiSend cmd params s).tim = s.tim ∧
    (dsiSend cmd params s).layers = s.layers ∧ (dsiSend cmd params s).frame = s.frame ∧
    (dsiSend cmd params s).cb = s.cb ∧ (dsiSend cmd params s).phase = s.phase ∧
    (dsiSend cmd params s).isr = s.isr ∧ (dsiSend cmd params s).now = s.now ∧
    (dsiSend cmd params s).logs = s.logs ∧ (dsiSend cmd params s).mem = s.mem ∧
    (dsiSend cmd params s).prog = s.prog ∧ (dsiSend cmd params s).windows = s.windows ∧
    (dsiSend cmd params s).sched = s.sched ∧
    (dsiSend cmd params s).draws = s.draws := by
  generalize h : (dsiSend cmd params s) = t
  unfold dsiSend at h
  (repeat' split at h) <;> (subst h; simp)

@[simp] theorem State.flushOnIssue_frame (s : State) :
    s.flushOnIssue.dsi = s.dsi ∧ s.flushOnIssue.irq = s.irq ∧ s.flushOnIssue.tim = s.tim ∧
    s.flushOnIssue.layers = s.layers ∧ s.flushOnIssue.frame = s.frame ∧ s.flushOnIssue.cb = s.cb ∧
    s.flushOnIssue.phase = s.phase ∧ s.flushOnIssue.isr = s.isr ∧ s.flushOnIssue.now = s.now ∧
    s.flushOnIssue.faulted = s.faulted ∧ s.flushOnIssue.logs = s.logs ∧ s.flushOnIssue.mem = s.mem ∧
    s.flushOnIssue.prog = s.prog ∧ s.flushOnIssue.windows = s.windows ∧ s.flushOnIssue.sched = s.sched ∧
    s.flushOnIssue.draws = s.draws ∧
    s.flushOnIssue.ret = s.ret := by
  and_intros <;> rfl

@[simp] theorem dsiRead_frame (cmd len : Byte) (s : State) :
    (dsiRead cmd len s).dsi = s.dsi ∧ (dsiRead cmd len s).tim = s.tim ∧ (dsiRead cmd len s).layers = s.layers ∧
    (dsiRead cmd len s).frame = s.frame ∧ (dsiRead cmd len s).cb = s.cb ∧ (dsiRead cmd len s).isr = s.isr ∧
    (dsiRead cmd len s).now = s.now ∧ (dsiRead cmd len s).logs = s.logs ∧ (dsiRead cmd len s).mem = s.mem ∧
    (dsiRead cmd len s).prog = s.prog ∧ (dsiRead cmd len s).windows = s.windows ∧
    (dsiRead cmd len s).sched = s.sched ∧ (dsiRead cmd len s).draws = s.draws := by
  generalize h : (dsiRead cmd len s) = t
  unfold dsiRead at h
  (repeat' split at h) <;> (subst h; simp)

@[simp] theorem readPoll_frame (cmd len : Byte) (t0 : Nat) (buf : List Byte) (s : State) :
    (readPoll cmd len t0 buf s).dsi = s.dsi ∧ (readPoll cmd len t0 buf s).irq = s.irq ∧
    (readPoll cmd len t0 buf s).tim = s.tim ∧ (readPoll cmd len t0 buf s).layers = s.layers ∧
    (readPoll cmd len t0 buf s).frame = s.frame ∧ (readPoll cmd len t0 buf s).cb = s.cb ∧
    (readPoll cmd len t0 buf s).isr = s.isr ∧ (readPoll cmd len t0 buf s).now = s.now ∧
    (readPoll cmd len t0 buf s).faulted = s.faulted ∧ (readPoll cmd len t0 buf s).logs = s.logs ∧
    (readPoll cmd len t0 buf s).mem = s.mem ∧ (readPoll cmd len t0 buf s).prog = s.prog ∧
    (readPoll cmd len t0 buf s).windows = s.windows ∧
    (readPoll cmd len t0 buf s).sched = s.sched := by
  generalize h : (readPoll cmd len t0 buf s) = t
  simp only [readPoll] at h
  (repeat' split at h) <;> (subst h; simp)

@[simp] theorem readDrain_frame (len : Byte) (buf : List Byte) (s : State) :
    (readDrain len buf s).dsi = s.dsi ∧ (readDrain len buf s).irq = s.irq ∧ (readDrain len buf s).tim = s.tim ∧
    (readDrain len buf s).layers = s.layers ∧ (readDrain len buf s).frame = s.frame ∧
    (readDrain len buf s).cb = s.cb ∧ (readDrain len buf s).isr = s.isr ∧ (readDrain len buf s).now = s.now ∧
    (readDrain len buf s).faulted = s.faulted ∧ (readDrain len buf s).mem = s.mem ∧
    (readDrain len buf s).prog = s.prog ∧ (readDrain len buf s).windows = s.windows ∧
    (readDrain len buf s).sched = s.sched := by
  by_cases h : 0 < s.link.rxFifo.length <;> simp [readDrain, h]

@[simp] theorem dsiUlpsEnter_frame (s : State) :
    (dsiUlpsEnter s).dsi = s.dsi ∧ (dsiUlpsEnter s).tim = s.tim ∧ (dsiUlpsEnter s).layers = s.layers ∧
    (dsiUlpsEnter s).frame = s.frame ∧ (dsiUlpsEnter s).cb = s.cb ∧ (dsiUlpsEnter s).isr = s.isr ∧
    (dsiUlpsEnter s).now = s.now ∧ (dsiUlpsEnter s).logs = s.logs ∧ (dsiUlpsEnter s).mem = s.mem ∧
    (dsiUlpsEnter s).prog = s.prog ∧ (dsiUlpsEnter s).windows = s.windows ∧ (dsiUlpsEnter s).sched = s.sched ∧
    (dsiUlpsEnter s).draws = s.draws := by
  generalize h : (dsiUlpsEnter s) = t
  unfold dsiUlpsEnter at h
  (repeat' split at h) <;> (subst h; simp)

@[simp] theorem ulpsEnterWait_frame (t0 : Nat) (s : State) :
    (ulpsEnterWait t0 s).dsi = s.dsi ∧ (ulpsEnterWait t0 s).link = s.link ∧ (ulpsEnterWait t0 s).irq = s.irq ∧
    (ulpsEnterWait t0 s).tim = s.tim ∧ (ulpsEnterWait t0 s).layers = s.layers ∧
    (ulpsEnterWait t0 s).frame = s.frame ∧ (ulpsEnterWait t0 s).cb = s.cb ∧ (ulpsEnterWait t0 s).isr = s.isr ∧
    (ulpsEnterWait t0 s).now = s.now ∧ (ulpsEnterWait t0 s).faulted = s.faulted ∧
    (ulpsEnterWait t0 s).mem = s.mem ∧ (ulpsEnterWait t0 s).prog = s.prog ∧
    (ulpsEnterWait t0 s).windows = s.windows ∧ (ulpsEnterWait t0 s).sched = s.sched ∧
    (ulpsEnterWait t0 s).draws = s.draws := by
  generalize h : (ulpsEnterWait t0 s) = t
  unfold ulpsEnterWait at h
  (repeat' split at h) <;> (subst h; simp)

@[simp] theorem dsiUlpsExit_frame (s : State) :
    (dsiUlpsExit s).dsi = s.dsi ∧ (dsiUlpsExit s).tim = s.tim ∧ (dsiUlpsExit s).layers = s.layers ∧
    (dsiUlpsExit s).frame = s.frame ∧ (dsiUlpsExit s).cb = s.cb ∧ (dsiUlpsExit s).isr = s.isr ∧
    (dsiUlpsExit s).now = s.now ∧ (dsiUlpsExit s).logs = s.logs ∧ (dsiUlpsExit s).mem = s.mem ∧
    (dsiUlpsExit s).prog = s.prog ∧ (dsiUlpsExit s).windows = s.windows ∧ (dsiUlpsExit s).sched = s.sched ∧
    (dsiUlpsExit s).draws = s.draws := by
  generalize h : (dsiUlpsExit s) = t
  unfold dsiUlpsExit at h
  (repeat' split at h) <;> (subst h; simp)

@[simp] theorem ulpsExitWait_frame (t0 : Nat) (s : State) :
    (ulpsExitWait t0 s).dsi = s.dsi ∧ (ulpsExitWait t0 s).link = s.link ∧ (ulpsExitWait t0 s).irq = s.irq ∧
    (ulpsExitWait t0 s).tim = s.tim ∧ (ulpsExitWait t0 s).layers = s.layers ∧ (ulpsExitWait t0 s).frame = s.frame ∧
    (ulpsExitWait t0 s).cb = s.cb ∧ (ulpsExitWait t0 s).isr = s.isr ∧ (ulpsExitWait t0 s).now = s.now ∧
    (ulpsExitWait t0 s).faulted = s.faulted ∧ (ulpsExitWait t0 s).logs = s.logs ∧ (ulpsExitWait t0 s).mem = s.mem ∧
    (ulpsExitWait t0 s).prog = s.prog ∧ (ulpsExitWait t0 s).windows = s.windows ∧
    (ulpsExitWait t0 s).sched = s.sched ∧ (ulpsExitWait t0 s).draws = s.draws := by
  generalize h : (ulpsExitWait t0 s) = t
  unfold ulpsExitWait at h
  (repeat' split at h) <;> (subst h; simp)

@[simp] theorem State.teirq_frame (s : State) (on : Bool) :
    (s.teirq on).dsi = s.dsi ∧ (s.teirq on).link = s.link ∧ (s.teirq on).tim = s.tim ∧
    (s.teirq on).layers = s.layers ∧ (s.teirq on).frame = s.frame ∧ (s.teirq on).cb = s.cb ∧
    (s.teirq on).phase = s.phase ∧ (s.teirq on).isr = s.isr ∧ (s.teirq on).now = s.now ∧
    (s.teirq on).faulted = s.faulted ∧ (s.teirq on).logs = s.logs ∧ (s.teirq on).mem = s.mem ∧
    (s.teirq on).prog = s.prog ∧ (s.teirq on).windows = s.windows ∧ (s.teirq on).sched = s.sched ∧
    (s.teirq on).draws = s.draws := by
  and_intros <;> rfl

@[simp] theorem dsiSleep_frame (s : State) :
    (dsiSleep s).link = s.link ∧ (dsiSleep s).irq = s.irq ∧ (dsiSleep s).tim = s.tim ∧
    (dsiSleep s).layers = s.layers ∧ (dsiSleep s).frame = s.frame ∧ (dsiSleep s).cb = s.cb ∧
    (dsiSleep s).phase = s.phase ∧ (dsiSleep s).isr = s.isr ∧ (dsiSleep s).now = s.now ∧
    (dsiSleep s).faulted = s.faulted ∧ (dsiSleep s).logs = s.logs ∧ (dsiSleep s).mem = s.mem ∧
    (dsiSleep s).prog = s.prog ∧ (dsiSleep s).windows = s.windows ∧ (dsiSleep s).sched = s.sched ∧
    (dsiSleep s).draws = s.draws := by
  generalize h : (dsiSleep s) = t
  unfold dsiSleep at h
  (repeat' split at h) <;> (subst h; simp)

@[simp] theorem dsiWakeup_frame (s : State) :
    (dsiWakeup s).link = s.link ∧ (dsiWakeup s).irq = s.irq ∧ (dsiWakeup s).tim = s.tim ∧
    (dsiWakeup s).layers = s.layers ∧ (dsiWakeup s).frame = s.frame ∧ (dsiWakeup s).cb = s.cb ∧
    (dsiWakeup s).phase = s.phase ∧ (dsiWakeup s).isr = s.isr ∧ (dsiWakeup s).now = s.now ∧
    (dsiWakeup s).faulted = s.faulted ∧ (dsiWakeup s).logs = s.logs ∧ (dsiWakeup s).mem = s.mem ∧
    (dsiWakeup s).prog = s.prog ∧ (dsiWakeup s).windows = s.windows ∧ (dsiWakeup s).sched = s.sched ∧
    (dsiWakeup s).draws = s.draws := by
  generalize h : (dsiWakeup s) = t
  unfold dsiWakeup at h
  (repeat' split at h) <;> (subst h; simp)

@[simp] theorem linkBegin_frame (s : State) :
    (linkBegin s).dsi = s.dsi ∧ (linkBegin s).irq = s.irq ∧ (linkBegin s).tim = s.tim ∧
    (linkBegin s).layers = s.layers ∧ (linkBegin s).frame = s.frame ∧ (linkBegin s).cb = s.cb ∧
    (linkBegin s).phase = s.phase ∧ (linkBegin s).isr = s.isr ∧ (linkBegin s).now = s.now ∧
    (linkBegin s).faulted = s.faulted ∧ (linkBegin s).logs = s.logs ∧ (linkBegin s).mem = s.mem ∧
    (linkBegin s).prog = s.prog ∧ (linkBegin s).windows = s.windows ∧ (linkBegin s).sched = s.sched ∧
    (linkBegin s).draws = s.draws ∧
    (linkBegin s).ret = s.ret := by
  and_intros <;> rfl

@[simp] theorem linkSent_frame (p : Packet) (s : State) :
    (linkSent p s).dsi = s.dsi ∧ (linkSent p s).tim = s.tim ∧ (linkSent p s).layers = s.layers ∧
    (linkSent p s).frame = s.frame ∧ (linkSent p s).cb = s.cb ∧ (linkSent p s).phase = s.phase ∧
    (linkSent p s).isr = s.isr ∧ (linkSent p s).now = s.now ∧ (linkSent p s).faulted = s.faulted ∧
    (linkSent p s).mem = s.mem ∧ (linkSent p s).prog = s.prog ∧ (linkSent p s).windows = s.windows ∧
    (linkSent p s).sched = s.sched ∧
    (linkSent p s).draws = s.draws ∧ (linkSent p s).ret = s.ret := by
  and_intros <;> rfl

@[simp] theorem linkTurn_frame (p : Packet) (s : State) :
    (linkTurn p s).dsi = s.dsi ∧ (linkTurn p s).irq = s.irq ∧ (linkTurn p s).tim = s.tim ∧
    (linkTurn p s).layers = s.layers ∧ (linkTurn p s).frame = s.frame ∧ (linkTurn p s).cb = s.cb ∧
    (linkTurn p s).phase = s.phase ∧ (linkTurn p s).isr = s.isr ∧ (linkTurn p s).now = s.now ∧
    (linkTurn p s).faulted = s.faulted ∧ (linkTurn p s).mem = s.mem ∧ (linkTurn p s).prog = s.prog ∧
    (linkTurn p s).windows = s.windows ∧
    (linkTurn p s).sched = s.sched ∧ (linkTurn p s).draws = s.draws ∧ (linkTurn p s).ret = s.ret := by
  and_intros <;> rfl

@[simp] theorem linkUlpsEnter_frame (s : State) :
    (linkUlpsEnter s).dsi = s.dsi ∧ (linkUlpsEnter s).tim = s.tim ∧ (linkUlpsEnter s).layers = s.layers ∧
    (linkUlpsEnter s).frame = s.frame ∧ (linkUlpsEnter s).cb = s.cb ∧ (linkUlpsEnter s).phase = s.phase ∧
    (linkUlpsEnter s).isr = s.isr ∧ (linkUlpsEnter s).now = s.now ∧ (linkUlpsEnter s).faulted = s.faulted ∧
    (linkUlpsEnter s).mem = s.mem ∧ (linkUlpsEnter s).prog = s.prog ∧ (linkUlpsEnter s).windows = s.windows ∧
    (linkUlpsEnter s).sched = s.sched ∧
    (linkUlpsEnter s).draws = s.draws ∧ (linkUlpsEnter s).ret = s.ret := by
  by_cases h : s.link.clk = .hs <;> simp [linkUlpsEnter, h]

@[simp] theorem linkUlpsExit_frame (s : State) :
    (linkUlpsExit s).dsi = s.dsi ∧ (linkUlpsExit s).tim = s.tim ∧ (linkUlpsExit s).layers = s.layers ∧
    (linkUlpsExit s).frame = s.frame ∧ (linkUlpsExit s).cb = s.cb ∧ (linkUlpsExit s).phase = s.phase ∧
    (linkUlpsExit s).isr = s.isr ∧ (linkUlpsExit s).now = s.now ∧ (linkUlpsExit s).faulted = s.faulted ∧
    (linkUlpsExit s).mem = s.mem ∧ (linkUlpsExit s).prog = s.prog ∧ (linkUlpsExit s).windows = s.windows ∧
    (linkUlpsExit s).sched = s.sched ∧
    (linkUlpsExit s).draws = s.draws ∧ (linkUlpsExit s).ret = s.ret := by
  and_intros <;> rfl

@[simp] theorem linkStep_frame (s : State) :
    (linkStep s).dsi = s.dsi ∧ (linkStep s).tim = s.tim ∧ (linkStep s).layers = s.layers ∧
    (linkStep s).frame = s.frame ∧ (linkStep s).cb = s.cb ∧ (linkStep s).phase = s.phase ∧
    (linkStep s).isr = s.isr ∧ (linkStep s).now = s.now ∧ (linkStep s).faulted = s.faulted ∧
    (linkStep s).mem = s.mem ∧ (linkStep s).prog = s.prog ∧ (linkStep s).windows = s.windows ∧
    (linkStep s).sched = s.sched ∧
    (linkStep s).draws = s.draws ∧ (linkStep s).ret = s.ret := by
  generalize h : (linkStep s) = t
  unfold linkStep at h
  (repeat' split at h) <;> (subst h; simp)

@[simp] theorem envRxByte_frame (b : Byte) (s : State) :
    (envRxByte b s).dsi = s.dsi ∧ (envRxByte b s).irq = s.irq ∧ (envRxByte b s).tim = s.tim ∧
    (envRxByte b s).layers = s.layers ∧ (envRxByte b s).frame = s.frame ∧ (envRxByte b s).cb = s.cb ∧
    (envRxByte b s).phase = s.phase ∧ (envRxByte b s).isr = s.isr ∧ (envRxByte b s).now = s.now ∧
    (envRxByte b s).faulted = s.faulted ∧ (envRxByte b s).logs = s.logs ∧ (envRxByte b s).mem = s.mem ∧
    (envRxByte b s).prog = s.prog ∧ (envRxByte b s).windows = s.windows ∧ (envRxByte b s).sched = s.sched ∧
    (envRxByte b s).draws = s.draws ∧
    (envRxByte b s).ret = s.ret := by
  generalize h : (envRxByte b s) = t
  unfold envRxByte at h
  (repeat' split at h) <;> (subst h; simp)

@[simp] theorem envRxEnd_frame (s : State) :
    (envRxEnd s).dsi = s.dsi ∧ (envRxEnd s).tim = s.tim ∧ (envRxEnd s).layers = s.layers ∧
    (envRxEnd s).frame = s.frame ∧ (envRxEnd s).cb = s.cb ∧ (envRxEnd s).phase = s.phase ∧
    (envRxEnd s).isr = s.isr ∧ (envRxEnd s).now = s.now ∧ (envRxEnd s).faulted = s.faulted ∧
    (envRxEnd s).mem = s.mem ∧ (envRxEnd s).prog = s.prog ∧ (envRxEnd s).windows = s.windows ∧
    (envRxEnd s).sched = s.sched ∧
    (envRxEnd s).draws = s.draws ∧ (envRxEnd s).ret = s.ret := by
  generalize h : (envRxEnd s) = t
  unfold envRxEnd at h
  (repeat' split at h) <;> (subst h; simp)

@[simp] theorem envRxFail_frame (c : Cause) (s : State) :
    (envRxFail c s).dsi = s.dsi ∧ (envRxFail c s).tim = s.tim ∧ (envRxFail c s).layers = s.layers ∧
    (envRxFail c s).frame = s.frame ∧ (envRxFail c s).cb = s.cb ∧ (envRxFail c s).phase = s.phase ∧
    (envRxFail c s).isr = s.isr ∧ (envRxFail c s).now = s.now ∧ (envRxFail c s).faulted = s.faulted ∧
    (envRxFail c s).logs = s.logs ∧ (envRxFail c s).mem = s.mem ∧ (envRxFail c s).prog = s.prog ∧
    (envRxFail c s).windows = s.windows ∧
    (envRxFail c s).sched = s.sched ∧ (envRxFail c s).draws = s.draws ∧ (envRxFail c s).ret = s.ret := by
  generalize h : (envRxFail c s) = t
  unfold envRxFail at h
  (repeat' split at h) <;> (subst h; simp)

@[simp] theorem setTiming_frame (t : TimingCounts) (s : State) :
    (setTiming t s).dsi = s.dsi ∧ (setTiming t s).link = s.link ∧ (setTiming t s).irq = s.irq ∧
    (setTiming t s).layers = s.layers ∧ (setTiming t s).frame = s.frame ∧ (setTiming t s).cb = s.cb ∧
    (setTiming t s).phase = s.phase ∧ (setTiming t s).isr = s.isr ∧ (setTiming t s).now = s.now ∧
    (setTiming t s).logs = s.logs ∧ (setTiming t s).mem = s.mem ∧ (setTiming t s).prog = s.prog ∧
    (setTiming t s).windows = s.windows ∧
    (setTiming t s).sched = s.sched ∧ (setTiming t s).draws = s.draws := by
  generalize h : (setTiming t s) = t
  unfold setTiming at h
  (repeat' split at h) <;> (subst h; simp)

@[simp] theorem setModeDefaults_frame (s : State) :
    (setModeDefaults s).dsi = s.dsi ∧ (setModeDefaults s).link = s.link ∧ (setModeDefaults s).irq = s.irq ∧
    (setModeDefaults s).layers = s.layers ∧ (setModeDefaults s).frame = s.frame ∧ (setModeDefaults s).cb = s.cb ∧
    (setModeDefaults s).phase = s.phase ∧ (setModeDefaults s).isr = s.isr ∧ (setModeDefaults s).now = s.now ∧
    (setModeDefaults s).logs = s.logs ∧ (setModeDefaults s).mem = s.mem ∧ (setModeDefaults s).prog = s.prog ∧
    (setModeDefaults s).windows = s.windows ∧
    (setModeDefaults s).sched = s.sched ∧ (setModeDefaults s).draws = s.draws := by
  generalize h : (setModeDefaults s) = t
  unfold setModeDefaults at h
  (repeat' split at h) <;> (subst h; simp)

@[simp] theorem setFormat_frame (l : Layer) (tag : BitVec 16) (s : State) :
    (setFormat l tag s).dsi = s.dsi ∧ (setFormat l tag s).link = s.link ∧ (setFormat l tag s).irq = s.irq ∧
    (setFormat l tag s).tim = s.tim ∧ (setFormat l tag s).frame = s.frame ∧ (setFormat l tag s).cb = s.cb ∧
    (setFormat l tag s).phase = s.phase ∧ (setFormat l tag s).isr = s.isr ∧ (setFormat l tag s).now = s.now ∧
    (setFormat l tag s).faulted = s.faulted ∧ (setFormat l tag s).logs = s.logs ∧ (setFormat l tag s).mem = s.mem ∧
    (setFormat l tag s).prog = s.prog ∧ (setFormat l tag s).windows = s.windows ∧
    (setFormat l tag s).sched = s.sched ∧ (setFormat l tag s).draws = s.draws := by
  generalize h : (setFormat l tag s) = t
  unfold setFormat at h
  (repeat' split at h) <;> (subst h; simp)

@[simp] theorem setBlend_frame (l : Layer) (mode : BlendMode) (alpha : Byte) (s : State) :
    (setBlend l mode alpha s).dsi = s.dsi ∧ (setBlend l mode alpha s).link = s.link ∧
    (setBlend l mode alpha s).irq = s.irq ∧ (setBlend l mode alpha s).tim = s.tim ∧
    (setBlend l mode alpha s).frame = s.frame ∧ (setBlend l mode alpha s).cb = s.cb ∧
    (setBlend l mode alpha s).phase = s.phase ∧ (setBlend l mode alpha s).isr = s.isr ∧
    (setBlend l mode alpha s).now = s.now ∧ (setBlend l mode alpha s).faulted = s.faulted ∧
    (setBlend l mode alpha s).logs = s.logs ∧ (setBlend l mode alpha s).mem = s.mem ∧
    (setBlend l mode alpha s).prog = s.prog ∧ (setBlend l mode alpha s).windows = s.windows ∧
    (setBlend l mode alpha s).sched = s.sched ∧
    (setBlend l mode alpha s).draws = s.draws := by
  generalize h : (setBlend l mode alpha s) = t
  unfold setBlend at h
  (repeat' split at h) <;> (subst h; simp)

@[simp] theorem writeAddr_frame (l : Layer) (c : Channel) (a : Word) (s : State) :
    (writeAddr l c a s).dsi = s.dsi ∧ (writeAddr l c a s).link = s.link ∧ (writeAddr l c a s).irq = s.irq ∧
    (writeAddr l c a s).tim = s.tim ∧ (writeAddr l c a s).cb = s.cb ∧ (writeAddr l c a s).phase = s.phase ∧
    (writeAddr l c a s).isr = s.isr ∧ (writeAddr l c a s).now = s.now ∧ (writeAddr l c a s).logs = s.logs ∧
    (writeAddr l c a s).mem = s.mem ∧ (writeAddr l c a s).prog = s.prog ∧ (writeAddr l c a s).windows = s.windows ∧
    (writeAddr l c a s).sched = s.sched ∧
    (writeAddr l c a s).draws = s.draws := by
  generalize h : (writeAddr l c a s) = t
  unfold writeAddr at h
  (repeat' split at h) <;> (subst h; simp)

@[simp] theorem enableLayer_frame (l : Layer) (on : Bool) (s : State) :
    (enableLayer l on s).dsi = s.dsi ∧ (enableLayer l on s).link = s.link ∧ (enableLayer l on s).irq = s.irq ∧
    (enableLayer l on s).tim = s.tim ∧ (enableLayer l on s).frame = s.frame ∧ (enableLayer l on s).cb = s.cb ∧
    (enableLayer l on s).phase = s.phase ∧ (enableLayer l on s).isr = s.isr ∧ (enableLayer l on s).now = s.now ∧
    (enableLayer l on s).logs = s.logs ∧ (enableLayer l on s).mem = s.mem ∧ (enableLayer l on s).prog = s.prog ∧
    (enableLayer l on s).windows = s.windows ∧
    (enableLayer l on s).sched = s.sched ∧ (enableLayer l on s).draws = s.draws := by
  generalize h : (enableLayer l on s) = t
  simp only [enableLayer] at h
  (repeat' split at h) <;> (subst h; simp)

@[simp] theorem readFormat_frame (l : Layer) (s : State) :
    (readFormat l s).dsi = s.dsi ∧ (readFormat l s).link = s.link ∧ (readFormat l s).irq = s.irq ∧
    (readFormat l s).tim = s.tim ∧ (readFormat l s).layers = s.layers ∧ (readFormat l s).frame = s.frame ∧
    (readFormat l s).cb = s.cb ∧ (readFormat l s).phase = s.phase ∧ (readFormat l s).isr = s.isr ∧
    (readFormat l s).now = s.now ∧ (readFormat l s).logs = s.logs ∧ (readFormat l s).mem = s.mem ∧
    (readFormat l s).prog = s.prog ∧ (readFormat l s).windows = s.windows ∧ (readFormat l s).sched = s.sched ∧
    (readFormat l s).draws = s.draws := by
  generalize h : (readFormat l s) = t
  unfold readFormat at h
  (repeat' split at h) <;> (subst h; simp)

@[simp] theorem startFrame_frame (s : State) :
    (startFrame s).dsi = s.dsi ∧ (startFrame s).link = s.link ∧ (startFrame s).irq = s.irq ∧
    (startFrame s).tim = s.tim ∧ (startFrame s).layers = s.layers ∧ (startFrame s).cb = s.cb ∧
    (startFrame s).phase = s.phase ∧ (startFrame s).isr = s.isr ∧ (startFrame s).now = s.now ∧
    (startFrame s).logs = s.logs ∧ (startFrame s).mem = s.mem ∧ (startFrame s).prog = s.prog ∧
    (startFrame s).windows = s.windows ∧
    (startFrame s).sched = s.sched ∧ (startFrame s).draws = s.draws := by
  generalize h : (startFrame s) = t
  unfold startFrame at h
  (repeat' split at h) <;> (subst h; simp)

@[simp] theorem armTe_frame (s : State) :
    (armTe s).dsi = s.dsi ∧ (armTe s).link = s.link ∧ (armTe s).irq = s.irq ∧ (armTe s).tim = s.tim ∧
    (armTe s).layers = s.layers ∧ (armTe s).cb = s.cb ∧ (armTe s).phase = s.phase ∧ (armTe s).isr = s.isr ∧
    (armTe s).now = s.now ∧ (armTe s).faulted = s.faulted ∧ (armTe s).logs = s.logs ∧ (armTe s).mem = s.mem ∧
    (armTe s).prog = s.prog ∧ (armTe s).windows = s.windows ∧ (armTe s).sched = s.sched ∧
    (armTe s).draws = s.draws := by
  generalize h : (armTe s) = t
  unfold armTe at h
  (repeat' split at h) <;> (subst h; simp)

@[simp] theorem beginScan_frame (mode : DisplayMode) (ls : PerLayer (Option ScanEntry)) (s : State) :
    (beginScan mode ls s).dsi = s.dsi ∧ (beginScan mode ls s).tim = s.tim ∧
    (beginScan mode ls s).layers = s.layers ∧ (beginScan mode ls s).cb = s.cb ∧
    (beginScan mode ls s).phase = s.phase ∧ (beginScan mode ls s).isr = s.isr ∧ (beginScan mode ls s).now = s.now ∧
    (beginScan mode ls s).faulted = s.faulted ∧ (beginScan mode ls s).prog = s.prog ∧
    (beginScan mode ls s).windows = s.windows ∧
    (beginScan mode ls s).sched = s.sched ∧ (beginScan mode ls s).draws = s.draws ∧
    (beginScan mode ls s).ret = s.ret := by
  simp [beginScan]

@[simp] theorem frameBegin_frame (s : State) :
    (frameBegin s).dsi = s.dsi ∧ (frameBegin s).tim = s.tim ∧ (frameBegin s).cb = s.cb ∧
    (frameBegin s).phase = s.phase ∧ (frameBegin s).isr = s.isr ∧ (frameBegin s).now = s.now ∧
    (frameBegin s).prog = s.prog ∧ (frameBegin s).windows = s.windows ∧ (frameBegin s).sched = s.sched ∧
    (frameBegin s).draws = s.draws ∧
    (frameBegin s).ret = s.ret := by
  generalize h : (frameBegin s) = t
  unfold frameBegin at h
  (repeat' split at h) <;> (subst h; simp)

@[simp] theorem completeLayer_frame (sc : Scan) (l : Layer) (s : State) :
    (completeLayer sc l s).dsi = s.dsi ∧ (completeLayer sc l s).link = s.link ∧
    (completeLayer sc l s).tim = s.tim ∧ (completeLayer sc l s).frame = s.frame ∧
    (completeLayer sc l s).cb = s.cb ∧ (completeLayer sc l s).phase = s.phase ∧
    (completeLayer sc l s).isr = s.isr ∧ (completeLayer sc l s).now = s.now ∧
    (completeLayer sc l s).faulted = s.faulted ∧ (completeLayer sc l s).logs = s.logs ∧
    (completeLayer sc l s).mem = s.mem ∧ (completeLayer sc l s).prog = s.prog ∧
    (completeLayer sc l s).windows = s.windows ∧
    (completeLayer sc l s).sched = s.sched ∧ (completeLayer sc l s).draws = s.draws ∧
    (completeLayer sc l s).ret = s.ret := by
  generalize h : (completeLayer sc l s) = t
  unfold completeLayer at h
  (repeat' split at h) <;> (subst h; simp)

@[simp] theorem completeLayers_frame (sc : Scan) (s : State) :
    (completeLayers sc s).dsi = s.dsi ∧ (completeLayers sc s).link = s.link ∧ (completeLayers sc s).tim = s.tim ∧
    (completeLayers sc s).frame = s.frame ∧ (completeLayers sc s).cb = s.cb ∧
    (completeLayers sc s).phase = s.phase ∧ (completeLayers sc s).isr = s.isr ∧ (completeLayers sc s).now = s.now ∧
    (completeLayers sc s).faulted = s.faulted ∧ (completeLayers sc s).logs = s.logs ∧
    (completeLayers sc s).mem = s.mem ∧ (completeLayers sc s).prog = s.prog ∧
    (completeLayers sc s).windows = s.windows ∧
    (completeLayers sc s).sched = s.sched ∧ (completeLayers sc s).draws = s.draws ∧
    (completeLayers sc s).ret = s.ret := by
  simp [completeLayers]

@[simp] theorem frameEnd_frame (sc : Scan) (s : State) :
    (frameEnd sc s).dsi = s.dsi ∧ (frameEnd sc s).tim = s.tim ∧ (frameEnd sc s).cb = s.cb ∧
    (frameEnd sc s).phase = s.phase ∧ (frameEnd sc s).isr = s.isr ∧ (frameEnd sc s).now = s.now ∧
    (frameEnd sc s).faulted = s.faulted ∧ (frameEnd sc s).prog = s.prog ∧ (frameEnd sc s).windows = s.windows ∧
    (frameEnd sc s).sched = s.sched ∧
    (frameEnd sc s).draws = s.draws ∧ (frameEnd sc s).ret = s.ret := by
  simp [frameEnd]

@[simp] theorem scanStep_frame (s : State) :
    (scanStep s).dsi = s.dsi ∧ (scanStep s).tim = s.tim ∧ (scanStep s).cb = s.cb ∧ (scanStep s).phase = s.phase ∧
    (scanStep s).isr = s.isr ∧ (scanStep s).now = s.now ∧ (scanStep s).prog = s.prog ∧
    (scanStep s).windows = s.windows ∧
    (scanStep s).sched = s.sched ∧ (scanStep s).draws = s.draws ∧ (scanStep s).ret = s.ret := by
  generalize h : (scanStep s) = t
  unfold scanStep at h
  (repeat' split at h) <;> (subst h; simp)

@[simp] theorem envTeEdge_frame (p : Edge) (s : State) :
    (envTeEdge p s).dsi = s.dsi ∧ (envTeEdge p s).link = s.link ∧ (envTeEdge p s).tim = s.tim ∧
    (envTeEdge p s).layers = s.layers ∧ (envTeEdge p s).cb = s.cb ∧ (envTeEdge p s).phase = s.phase ∧
    (envTeEdge p s).isr = s.isr ∧ (envTeEdge p s).now = s.now ∧ (envTeEdge p s).faulted = s.faulted ∧
    (envTeEdge p s).logs = s.logs ∧ (envTeEdge p s).mem = s.mem ∧ (envTeEdge p s).prog = s.prog ∧
    (envTeEdge p s).windows = s.windows ∧
    (envTeEdge p s).sched = s.sched ∧ (envTeEdge p s).draws = s.draws ∧ (envTeEdge p s).ret = s.ret := by
  generalize h : (envTeEdge p s) = t
  unfold envTeEdge at h
  (repeat' split at h) <;> (subst h; simp)

@[simp] theorem envUnderflow_frame (s : State) :
    (envUnderflow s).dsi = s.dsi ∧ (envUnderflow s).link = s.link ∧ (envUnderflow s).tim = s.tim ∧
    (envUnderflow s).layers = s.layers ∧ (envUnderflow s).cb = s.cb ∧ (envUnderflow s).phase = s.phase ∧
    (envUnderflow s).isr = s.isr ∧ (envUnderflow s).now = s.now ∧ (envUnderflow s).faulted = s.faulted ∧
    (envUnderflow s).logs = s.logs ∧ (envUnderflow s).mem = s.mem ∧ (envUnderflow s).prog = s.prog ∧
    (envUnderflow s).windows = s.windows ∧
    (envUnderflow s).sched = s.sched ∧ (envUnderflow s).draws = s.draws ∧ (envUnderflow s).ret = s.ret := by
  generalize h : (envUnderflow s) = t
  unfold envUnderflow at h
  (repeat' split at h) <;> (subst h; simp)

@[simp] theorem abortFrame_frame (k : ErrKind) (s : State) :
    (abortFrame k s).dsi = s.dsi ∧ (abortFrame k s).irq = s.irq ∧ (abortFrame k s).tim = s.tim ∧
    (abortFrame k s).layers = s.layers ∧ (abortFrame k s).cb = s.cb ∧ (abortFrame k s).phase = s.phase ∧
    (abortFrame k s).isr = s.isr ∧ (abortFrame k s).now = s.now ∧ (abortFrame k s).faulted = s.faulted ∧
    (abortFrame k s).prog = s.prog ∧ (abortFrame k s).windows = s.windows ∧ (abortFrame k s).sched = s.sched ∧
    (abortFrame k s).draws = s.draws ∧
    (abortFrame k s).ret = s.ret := by
  simp [abortFrame]

@[simp] theorem envAxiError_frame (s : State) :
    (envAxiError s).dsi = s.dsi ∧ (envAxiError s).tim = s.tim ∧ (envAxiError s).layers = s.layers ∧
    (envAxiError s).cb = s.cb ∧ (envAxiError s).phase = s.phase ∧ (envAxiError s).isr = s.isr ∧
    (envAxiError s).now = s.now ∧ (envAxiError s).faulted = s.faulted ∧ (envAxiError s).prog = s.prog ∧
    (envAxiError s).windows = s.windows ∧
    (envAxiError s).sched = s.sched ∧ (envAxiError s).draws = s.draws ∧ (envAxiError s).ret = s.ret := by
  generalize h : (envAxiError s) = t
  unfold envAxiError at h
  (repeat' split at h) <;> (subst h; simp)

@[simp] theorem envErrIrq_frame (s : State) :
    (envErrIrq s).dsi = s.dsi ∧ (envErrIrq s).tim = s.tim ∧ (envErrIrq s).layers = s.layers ∧
    (envErrIrq s).cb = s.cb ∧ (envErrIrq s).phase = s.phase ∧ (envErrIrq s).isr = s.isr ∧
    (envErrIrq s).now = s.now ∧ (envErrIrq s).faulted = s.faulted ∧ (envErrIrq s).prog = s.prog ∧
    (envErrIrq s).windows = s.windows ∧
    (envErrIrq s).sched = s.sched ∧ (envErrIrq s).draws = s.draws ∧ (envErrIrq s).ret = s.ret := by
  by_cases h : s.frame.fsm = .scanning <;> cases hf : s.frame.fsm <;> simp_all [envErrIrq]

@[simp] theorem envStep_frame (e : EnvEvent) (s : State) :
    (envStep e s).dsi = s.dsi ∧ (envStep e s).tim = s.tim ∧ (envStep e s).layers = s.layers ∧
    (envStep e s).cb = s.cb ∧ (envStep e s).phase = s.phase ∧ (envStep e s).isr = s.isr ∧
    (envStep e s).now = s.now ∧ (envStep e s).faulted = s.faulted ∧ (envStep e s).prog = s.prog ∧
    (envStep e s).windows = s.windows ∧
    (envStep e s).sched = s.sched ∧ (envStep e s).draws = s.draws ∧ (envStep e s).ret = s.ret := by
  cases e <;> simp [envStep]

@[simp] theorem producerWrite_frame (a : Word) (b : Byte) (s : State) :
    (producerWrite a b s).dsi = s.dsi ∧ (producerWrite a b s).link = s.link ∧ (producerWrite a b s).irq = s.irq ∧
    (producerWrite a b s).tim = s.tim ∧ (producerWrite a b s).layers = s.layers ∧ (producerWrite a b s).cb = s.cb ∧
    (producerWrite a b s).phase = s.phase ∧ (producerWrite a b s).isr = s.isr ∧ (producerWrite a b s).now = s.now ∧
    (producerWrite a b s).faulted = s.faulted ∧ (producerWrite a b s).logs = s.logs ∧
    (producerWrite a b s).prog = s.prog ∧ (producerWrite a b s).windows = s.windows ∧
    (producerWrite a b s).sched = s.sched ∧
    (producerWrite a b s).draws = s.draws ∧ (producerWrite a b s).ret = s.ret := by
  generalize h : (producerWrite a b s) = t
  unfold producerWrite at h
  (repeat' split at h) <;> (subst h; simp)

@[simp] theorem errorClr_frame (s : State) :
    (errorClr s).dsi = s.dsi ∧ (errorClr s).link = s.link ∧ (errorClr s).tim = s.tim ∧
    (errorClr s).layers = s.layers ∧ (errorClr s).cb = s.cb ∧ (errorClr s).phase = s.phase ∧
    (errorClr s).isr = s.isr ∧ (errorClr s).now = s.now ∧ (errorClr s).faulted = s.faulted ∧
    (errorClr s).logs = s.logs ∧ (errorClr s).mem = s.mem ∧ (errorClr s).prog = s.prog ∧
    (errorClr s).windows = s.windows ∧
    (errorClr s).sched = s.sched ∧ (errorClr s).draws = s.draws := by
  generalize h : (errorClr s) = t
  unfold errorClr at h
  (repeat' split at h) <;> (subst h; simp)

@[simp] theorem State.leaveHs_frame (s : State) :
    s.leaveHs.dsi = s.dsi ∧ s.leaveHs.irq = s.irq ∧ s.leaveHs.tim = s.tim ∧ s.leaveHs.layers = s.layers ∧
    s.leaveHs.frame = s.frame ∧ s.leaveHs.cb = s.cb ∧ s.leaveHs.phase = s.phase ∧ s.leaveHs.isr = s.isr ∧
    s.leaveHs.now = s.now ∧ s.leaveHs.faulted = s.faulted ∧ s.leaveHs.logs = s.logs ∧ s.leaveHs.mem = s.mem ∧
    s.leaveHs.prog = s.prog ∧ s.leaveHs.windows = s.windows ∧ s.leaveHs.sched = s.sched ∧ s.leaveHs.draws = s.draws ∧
    s.leaveHs.ret = s.ret := by
  generalize h : s.leaveHs = t
  unfold State.leaveHs at h
  (repeat' split at h) <;> (subst h; simp)

@[simp] theorem abandonFrame_frame (s : State) :
    (abandonFrame s).dsi = s.dsi ∧ (abandonFrame s).irq = s.irq ∧ (abandonFrame s).tim = s.tim ∧
    (abandonFrame s).layers = s.layers ∧ (abandonFrame s).cb = s.cb ∧ (abandonFrame s).phase = s.phase ∧
    (abandonFrame s).isr = s.isr ∧ (abandonFrame s).now = s.now ∧ (abandonFrame s).faulted = s.faulted ∧
    (abandonFrame s).prog = s.prog ∧ (abandonFrame s).windows = s.windows ∧ (abandonFrame s).sched = s.sched ∧
    (abandonFrame s).draws = s.draws ∧
    (abandonFrame s).ret = s.ret := by
  simp [abandonFrame]

@[simp] theorem panelReset_frame (s : State) :
    (panelReset s).dsi = s.dsi ∧ (panelReset s).cb = s.cb ∧ (panelReset s).phase = s.phase ∧
    (panelReset s).isr = s.isr ∧ (panelReset s).now = s.now ∧ (panelReset s).faulted = s.faulted ∧
    (panelReset s).prog = s.prog ∧ (panelReset s).windows = s.windows ∧ (panelReset s).sched = s.sched := by
  simp [panelReset]

end Sys2Proof.Machine
end

