-- ==== Sys2Proof/Laws/Memory.lean ====
section
/-! SUPPORT. Framebuffer memory: every operation keeps the canonical form, and what a read gives after each
operation. -/

namespace Sys2Proof.Machine

theorem Memory.wf_nil : Memory.wf [] := ⟨List.Pairwise.nil, fun _ h => absurd h List.not_mem_nil⟩

/-- The tail of a canonical memory is canonical, and its addresses lie above the head's. -/
theorem Memory.wf_cons {x : Nat} {b : Byte} {m : Memory} (h : Memory.wf ((x, b) :: m)) :
    Memory.wf m ∧ x < 2 ^ Config.addrW ∧ ∀ c ∈ m, x < c.1 := by
  obtain ⟨hp, hb⟩ := h
  rw [List.pairwise_cons] at hp
  exact ⟨⟨hp.2, fun c hc => hb c (List.mem_cons_of_mem _ hc)⟩, hb _ List.mem_cons_self, hp.1⟩

theorem Memory.wf_mk {x : Nat} {b : Byte} {m : Memory} (hm : Memory.wf m) (hx : x < 2 ^ Config.addrW)
    (hlt : ∀ c ∈ m, x < c.1) : Memory.wf ((x, b) :: m) := by
  refine ⟨List.pairwise_cons.2 ⟨hlt, hm.1⟩, ?_⟩
  intro c hc
  rcases List.mem_cons.1 hc with rfl | hc
  · exact hx
  · exact hm.2 c hc

/-- Every cell of a written memory is the written one or an old one. -/
theorem Memory.mem_write {m : Memory} {a : Nat} {b : Byte} {c : Host.Cell} (h : c ∈ m.write a b) :
    c = (a, b) ∨ c ∈ m := by
  induction m with
  | nil => simpa [Memory.write] using h
  | cons y ys ih =>
    obtain ⟨x, v⟩ := y
    simp only [Memory.write] at h
    split at h
    · simpa using h
    · split at h
      · rcases List.mem_cons.1 h with h | h
        · exact .inl h
        · exact .inr (List.mem_cons_of_mem _ h)
      · rcases List.mem_cons.1 h with h | h
        · exact .inr (h ▸ List.mem_cons_self)
        · rcases ih h with h | h
          · exact .inl h
          · exact .inr (List.mem_cons_of_mem _ h)

theorem Memory.wf_write {m : Memory} {a : Nat} {b : Byte} (hm : Memory.wf m) (ha : a < 2 ^ Config.addrW) :
    Memory.wf (m.write a b) := by
  induction m with
  | nil => exact Memory.wf_mk Memory.wf_nil ha (by simp)
  | cons y ys ih =>
    obtain ⟨x, v⟩ := y
    obtain ⟨htl, hx, hlt⟩ := Memory.wf_cons hm
    simp only [Memory.write]
    split
    · rename_i h
      refine Memory.wf_mk hm ha ?_
      intro c hc
      rcases List.mem_cons.1 hc with rfl | hc
      · exact h
      · exact Nat.lt_trans h (hlt c hc)
    · split
      · rename_i _ h
        subst h
        exact Memory.wf_mk htl hx hlt
      · rename_i h1 h2
        refine Memory.wf_mk (ih htl) hx ?_
        intro c hc
        rcases Memory.mem_write hc with rfl | hc
        · show x < a
          omega
        · exact hlt c hc

theorem Memory.wf_filter {m : Memory} (p : Host.Cell → Bool) (hm : Memory.wf m) : Memory.wf (m.filter p) :=
  ⟨hm.1.filter p, fun c hc => hm.2 c (List.mem_filter.1 hc).1⟩

theorem Memory.wf_forget {m : Memory} (lo hi : Nat) (hm : Memory.wf m) : Memory.wf (m.forget lo hi) :=
  Memory.wf_filter _ hm

theorem Memory.wf_slice {m : Memory} (lo hi : Nat) (hm : Memory.wf m) : Memory.wf (m.slice lo hi) :=
  Memory.wf_filter _ hm

theorem Memory.wf_writeBytes {m : Memory} {a : Nat} {bs : List Byte} (hm : Memory.wf m)
    (ha : a + bs.length ≤ 2 ^ Config.addrW) : Memory.wf (m.writeBytes a bs) := by
  induction bs generalizing m a with
  | nil => exact hm
  | cons b bs ih =>
    simp only [List.length_cons] at ha
    exact ih (Memory.wf_write hm (by omega)) (by omega)

/-- A read after a write to the same address gives the byte written, and a write leaves every other address
alone. -/
theorem Memory.read_write (m : Memory) (a a' : Nat) (b : Byte) :
    (m.write a b).read a' = if a' = a then some b else m.read a' := by
  induction m with
  | nil => simp only [Memory.write, Memory.read, eq_comm]
  | cons y ys ih =>
    obtain ⟨x, v⟩ := y
    simp only [Memory.write]
    split
    · simp only [Memory.read, eq_comm]
    · split
      · rename_i h
        subst h
        simp only [Memory.read, eq_comm]
        split <;> rfl
      · simp only [Memory.read, ih]
        split
        · rename_i h1 h2 h3
          subst h3
          rw [if_neg (fun h => h2 h.symm)]
        · rfl

/-- A read of a filtered memory whose filter looks at addresses alone. -/
theorem Memory.read_filter (m : Memory) (p : Nat → Bool) (a : Nat) :
    Memory.read (m.filter (fun c => p c.1)) a = if p a then m.read a else none := by
  induction m with
  | nil => simp [Memory.read]
  | cons y ys ih =>
    obtain ⟨x, v⟩ := y
    simp only [List.filter_cons]
    split
    · rename_i h
      simp only [Memory.read, ih]
      split
      · rename_i hx
        subst hx
        rw [if_pos h]
      · rfl
    · rename_i h
      rw [ih]
      simp only [Memory.read]
      split
      · rename_i hp
        rw [if_neg]
        rintro rfl
        exact h hp
      · rfl

/-- After a region is forgotten no byte of it is known, and every other byte reads as before (R144). -/
theorem Memory.read_forget (m : Memory) (lo hi a : Nat) :
    (m.forget lo hi).read a = if lo ≤ a ∧ a < hi then none else m.read a := by
  have h := Memory.read_filter m (fun x => !(decide (lo ≤ x) && decide (x < hi))) a
  rw [Memory.forget, h]
  by_cases h1 : lo ≤ a ∧ a < hi
  · simp [h1]
  · rw [if_neg h1, if_pos]
    simp only [Bool.not_eq_true', Bool.and_eq_false_iff, decide_eq_false_iff_not]
    tauto

/-- A slice holds the region's bytes and no others (R143). -/
theorem Memory.read_slice (m : Memory) (lo hi a : Nat) :
    (m.slice lo hi).read a = if lo ≤ a ∧ a < hi then m.read a else none := by
  have h := Memory.read_filter m (fun x => decide (lo ≤ x) && decide (x < hi)) a
  rw [Memory.slice, h]
  simp only [Bool.and_eq_true, decide_eq_true_eq]

end Sys2Proof.Machine
end

