-- ==== Sys2Proof/Laws/Ops.lean ====
section
/-! SUPPORT. What each shared operation does, said once: layer indexing, the checks of command traffic, link jobs, the
data ports, layer writes, the TE pulse, the end of a frame, the exception entry's parts, and the windows. -/

namespace Sys2Proof.Machine

/-! ## Layers -/

@[simp] theorem PerLayer.get_set {α : Type} (p : PerLayer α) (l l' : Layer) (v : α) :
    (p.set l v).get l' = if l' = l then v else p.get l' := by
  cases l <;> cases l' <;> rfl

@[simp] theorem PerLayer.get_tabulate {α : Type} (f : Layer → α) (l : Layer) : (PerLayer.tabulate f).get l = f l := by
  cases l <;> rfl

theorem PerLayer.ext_get {α : Type} {p q : PerLayer α} (h : ∀ l, p.get l = q.get l) : p = q := by
  cases p
  cases q
  have hf := h .fg
  have hb := h .bg
  have hw := h .wb
  have hs := h .sp
  simp only [PerLayer.get] at hf hb hw hs
  simp only [hf, hb, hw, hs]

@[simp] theorem LayerState.putAddr_addr (L : LayerState) (c c' : Channel) (a : Word) :
    (L.putAddr c a).addr c' = if c' = c then some a else L.addr c' := by
  cases c <;> cases c' <;> rfl

@[simp] theorem LayerState.putAddr_rest (L : LayerState) (c : Channel) (a : Word) :
    (L.putAddr c a).sh = L.sh ∧ (L.putAddr c a).act = L.act ∧ (L.putAddr c a).cur = L.cur
      ∧ (L.putAddr c a).phase = L.phase := by
  cases c <;> exact ⟨rfl, rfl, rfl, rfl⟩

@[simp] theorem LayerState.touch_rest (L : LayerState) :
    L.touch.sh = L.sh ∧ L.touch.act = L.act ∧ L.touch.addr0 = L.addr0 ∧ L.touch.addr1 = L.addr1
      ∧ L.touch.cur = L.cur := by
  unfold LayerState.touch
  split <;> exact ⟨rfl, rfl, rfl, rfl, rfl⟩

@[simp] theorem LayerState.touch_addr (L : LayerState) (c : Channel) : L.touch.addr c = L.addr c := by
  cases c <;> simp [LayerState.addr]

/-- A touch moves a disabled layer to `Configuring` and no other (R341). -/
@[simp] theorem LayerState.touch_phase (L : LayerState) :
    L.touch.phase = if L.phase = .disabled then .configuring else L.phase := by
  unfold LayerState.touch
  split <;> simp_all

theorem LayerState.touch_enabled (L : LayerState) : L.touch.phase = .enabled ↔ L.phase = .enabled := by
  rw [LayerState.touch_phase]
  split <;> simp_all

/-- What a register write of a layer can do (R341): the shadow is rewritten, the layer touched, and nothing else. -/
@[simp] theorem State.writeShadow_layers (s : State) (l : Layer) (f : LayerCfg → LayerCfg) :
    (s.writeShadow l f).layers
      = s.layers.set l { s.layers.get l with sh := f (s.layers.get l).sh }.touch := rfl

/-! ## Checks of command traffic -/

theorem Power.ne_off_iff (p : Power) : p ≠ .off ↔ p = .on := by cases p <;> simp

theorem UlpsLatch.ne_entered_iff (u : UlpsLatch) : u ≠ .entered ↔ u = .exited := by cases u <;> simp

/-- The ULPS checks raise no fault exactly when the DSI is ready (R232). -/
theorem State.ulpsChecks_eq_none (s : State) : s.ulpsChecks = none ↔ s.dsiReady := by
  unfold State.ulpsChecks State.dsiReady
  rw [← Power.ne_off_iff]
  by_cases hp : s.dsi.power = .off <;> cases s.dsi.configured <;> cases s.settled <;> simp [hp]

/-- The command checks raise no fault exactly when the DSI is ready and not in ULPS (R232). -/
theorem State.cmdChecks_eq_none (s : State) : s.cmdChecks = none ↔ s.dsiReady ∧ s.link.ulps = .exited := by
  rw [← State.ulpsChecks_eq_none, ← UlpsLatch.ne_entered_iff]
  unfold State.cmdChecks
  cases s.ulpsChecks <;> simp

/-- The lanes are free exactly when no job is pending and the data lanes are in Stop (R233). -/
theorem State.laneFree_iff (s : State) : s.laneFree = true ↔ s.lanesIdle := by
  simp [State.laneFree, State.lanesIdle]

/-! ## Status bits -/

/-- Recording or clearing a cause changes its bit only (R70, R72). -/
theorem getLsbD_putCause (w : Word) (c : Cause) (b : Bool) (j : Nat) :
    (putBit w c.bit b).getLsbD j = if j = c.bit then b else w.getLsbD j :=
  getLsbD_putBit w c.bit j b (Nat.lt_trans c.bit_lt (by decide))

/-! ## Link jobs and data ports -/

@[simp] theorem State.startJob_link (s : State) (j : Job) : (s.startJob j).link = { s.link with job := some j } := by
  cases j <;> rfl

/-- Starting a job clears `CMD_DONE`; starting a read also clears `RX_DONE` (R72). -/
theorem State.startJob_irq (s : State) (j : Job) :
    (s.startJob j).irq = { s.irq with status := s.irq.status &&& ~~~(match j with
      | .txRead _ => 0x3000#32
      | _ => 0x1000#32) } := by
  have h12 : (1#32 <<< 12 : Word) = 0x1000#32 := by decide
  have h13 : (~~~(1#32 <<< 12) &&& ~~~(1#32 <<< 13) : Word) = ~~~0x3000#32 := by decide
  cases j with
  | txRead p =>
    simp only [State.startJob, State.clearCause, State.putStatus, Cause.bit, putBit_false, BitVec.and_assoc, h13]
  | _ => simp only [State.startJob, State.clearCause, State.putStatus, Cause.bit, putBit_false, h12]

theorem State.wrPushAll_link (s : State) (ws : List Word) :
    (s.wrPushAll ws).link = { s.link with wrArray := s.link.wrArray ++ ws } := by
  unfold State.wrPushAll
  induction ws generalizing s with
  | nil => simp
  | cons w ws ih => simp [ih]

/-- A pop of a FIFO that holds bytes takes the oldest and changes nothing else (R137). -/
theorem rxPop_of_cons {s : State} {b : Byte} {rest : List Byte} (h : s.link.rxFifo = b :: rest) :
    rxPop s = (b, { s with link := { s.link with rxFifo := rest } }) := by
  simp [rxPop, h]

/-- Popping as many bytes as the FIFO holds empties it (R247). -/
theorem rxDiscard_all (s : State) :
    rxDiscard s.link.rxFifo.length s = { s with link := { s.link with rxFifo := [] } } := by
  obtain ⟨xs, h⟩ : ∃ xs, s.link.rxFifo = xs := ⟨_, rfl⟩
  rw [h]
  induction xs generalizing s with
  | nil =>
    cases s with
    | mk dsi link => cases link; simp_all [rxDiscard]
  | cons b rest ih =>
    simp only [List.length_cons, rxDiscard, rxPop_of_cons h]
    rw [ih _ rfl]

/-! ## Frames -/

/-- The TE pulse records the edge and, when armed for TE, triggers one frame (R410). -/
theorem State.tePulse_eq (s : State) :
    s.tePulse = { s with
      irq := { s.irq with status := s.irq.status ||| 0x20#32 }
      frame := { s.frame with
        valid := if s.frame.fsm = .armedHardwareTE then true else s.frame.valid } } := by
  have h : (1#32 <<< 5 : Word) = 0x20#32 := by decide
  unfold State.tePulse
  split
  · simp [State.setCause, State.putStatus, Cause.bit, putBit_true, h]
  · simp [State.setCause, State.putStatus, Cause.bit, putBit_true, h]

/-- After a frame whose scan set has WB, no byte of WB's region is known; every other byte reads as before (R144). -/
theorem State.forgetWb_read (s : State) (sc : Scan) (a : Nat) :
    (s.forgetWb sc).mem.read a = if s.scans sc .wb a then none else s.mem.read a := by
  rcases h : sc.layers.wb with _ | e
  · have hs : s.scans sc .wb a = false := by simp only [State.scans, PerLayer.get, h]
    simp [State.forgetWb, h, hs]
  · have hs : s.scans sc .wb a
        = (decide ((s.layers.wb.region e.addr).1 ≤ a) && decide (a < (s.layers.wb.region e.addr).2)) := by
      simp only [State.scans, PerLayer.get, h]
      rfl
    simp [State.forgetWb, h, hs, Memory.read_forget]

theorem State.forgetWb_wf {s : State} (sc : Scan) (h : s.mem.wf) : (s.forgetWb sc).mem.wf := by
  unfold State.forgetWb
  split
  · exact h
  · exact Memory.wf_forget _ _ h

/-- What the end of a frame in flight does (R408): one record is logged and no frame is in flight. -/
@[simp] theorem State.closeFrame_rest (s : State) (sc : Scan) (o : FrameOutcome) :
    (s.closeFrame sc o).logs = { s.logs with frames := s.logs.frames ++ [s.frameRecord sc o] }
      ∧ (s.closeFrame sc o).frame = { s.frame with scan := none }
      ∧ (s.closeFrame sc o).mem = (s.forgetWb sc).mem := by
  refine ⟨by simp [State.closeFrame], by simp [State.closeFrame], ?_⟩
  unfold State.closeFrame State.forgetWb
  cases h : sc.layers.wb <;> simp

/-- The record of a frame that ends (R408). -/
theorem State.frameRecord_reports (s : State) (sc : Scan) (o : FrameOutcome) : (s.frameRecord sc o).Reports s sc o :=
  ⟨rfl, rfl, rfl, rfl, rfl, rfl, rfl, fun l => PerLayer.get_tabulate _ l⟩

@[simp] theorem State.frameRecord_k (s : State) (sc : Scan) (o : FrameOutcome) : (s.frameRecord sc o).k = sc.k := rfl

/-- Ending a frame, if one is in flight, adds no HS transmission to the wire (R280). -/
@[simp] theorem State.endInFlight_wire (s : State) (o : FrameOutcome) : (s.endInFlight o).logs.wire = s.logs.wire := by
  unfold State.endInFlight
  cases s.frame.scan <;> simp

@[simp] theorem State.endInFlight_scan (s : State) (o : FrameOutcome) :
    (s.endInFlight o).frame = { s.frame with scan := none } := by
  unfold State.endInFlight
  split
  · rename_i h
    rw [← h]
  · simp

theorem State.endInFlight_wf {s : State} (o : FrameOutcome) (h : s.mem.wf) : (s.endInFlight o).mem.wf := by
  unfold State.endInFlight
  split
  · exact h
  · simpa using State.forgetWb_wf _ h

/-- What frame end does to a layer in the scan set: its current channel becomes the other one (R407). -/
theorem completeLayer_layers (sc : Scan) (l l' : Layer) (s : State) :
    (completeLayer sc l s).layers.get l' =
      match sc.layers.get l with
      | none => s.layers.get l'
      | some e => if l' = l then { s.layers.get l with cur := otherChannel e.ch } else s.layers.get l' := by
  unfold completeLayer
  cases sc.layers.get l <;> simp

/-- What frame end does to the layers: the current channel of each layer in the scan set becomes the other one, and
nothing else of any layer changes (R407). -/
theorem completeLayers_layers (sc : Scan) (l : Layer) (s : State) :
    (completeLayers sc s).layers.get l =
      match sc.layers.get l with
      | none => s.layers.get l
      | some e => { s.layers.get l with cur := otherChannel e.ch } := by
  unfold completeLayers
  simp only [completeLayer_layers]
  cases l <;> cases sc.layers.get .fg <;> cases sc.layers.get .bg <;> cases sc.layers.get .wb <;>
    cases sc.layers.get .sp <;> rfl

/-! ## The exception: handler entry -/

/-- Handler entry leaves the reading of memory, layers and frames alone, and runs the handler (R451). -/
theorem handlerEntry_active (s : State) : (handlerEntry s).isr.active = true := by
  have hF : ∀ w t, t.isr.active = true → (handleFatal w t).isr.active = true := by
    intro w t h
    unfold handleFatal
    split
    · exact h
    · unfold State.queueFault
      dsimp only
      split <;> simpa using h
  have hU : ∀ w t, t.isr.active = true → (handleUnderflow w t).isr.active = true := by
    intro w t h
    unfold handleUnderflow
    split <;> simpa using h
  have hD : ∀ x w l t, t.isr.active = true → (handleDone x w l t).isr.active = true := by
    intro x w l t h
    unfold handleDone State.queueDone
    repeat' split
    all_goals simpa using h
  have hQ : ∀ b t, t.isr.active = true → (queueDefault b t).isr.active = true := by
    intro b t h
    unfold queueDefault
    split <;> simpa using h
  unfold handlerEntry
  refine hQ _ _ (hD _ _ _ _ (hD _ _ _ _ (hD _ _ _ _ (hD _ _ _ _ ?_))))
  simp only [handleInfo_frame]
  exact hU _ _ (hF _ _ rfl)

/-! ## Operations -/

/-- A host operation always answers a next state (R10): what the spec calls a fault is a state marked faulted. -/
theorem exec_answers_next (i : Instr) (s : State) : ∃ t, exec i s = .next t := by
  cases i <;> exact ⟨_, rfl⟩

/-! ## Display-capable windows -/

/-- An address lies in a window exactly when it lies in one of the list. -/
theorem displayMem_iff (ws : List Window) (a : Word) :
    displayMem ws a = true ↔ ∃ w ∈ ws, w.first.toNat ≤ a.toNat ∧ a.toNat ≤ w.last.toNat := by
  simp [displayMem]

/-- Lists of windows give every predicate on addresses (R20: DISPLAY_MEM is open). -/
theorem displayMem_surjective (f : Word → Bool) : ∃ ws, ∀ a, displayMem ws a = f a := by
  refine ⟨((List.range (2 ^ 32)).map (BitVec.ofNat 32)).filter f |>.map (fun a => ⟨a, a⟩), fun a => ?_⟩
  rw [Bool.eq_iff_iff, displayMem_iff]
  constructor
  · rintro ⟨w, hw, h1, h2⟩
    obtain ⟨b, hb, rfl⟩ := List.mem_map.1 hw
    have e : b = a := BitVec.eq_of_toNat_eq (Nat.le_antisymm h1 h2)
    exact e ▸ (List.mem_filter.1 hb).2
  · intro h
    refine ⟨⟨a, a⟩, List.mem_map.2 ⟨a, List.mem_filter.2 ⟨List.mem_map.2 ⟨a.toNat, ?_, ?_⟩, h⟩, rfl⟩, Nat.le_refl _,
      Nat.le_refl _⟩
    · exact List.mem_range.2 a.isLt
    · exact BitVec.eq_of_toNat_eq (by simp)

end Sys2Proof.Machine
end

