-- ==== Sys2Proof/Laws/PerInstr.lean ====
section
/-! SUPPORT. For every host operation, one lemma: its `word0` is admitted by the one row of the opcode map with its
opcode (R173, R175), and that row says how many operand words follow. -/

namespace Sys2Proof.Laws.RowAdmits

/-- The words of packed parameter bytes after the count word of `dsi.send`; no other operation has any (R172). -/
def packedWords (i : Instr) : Nat :=
  match i with
  | .dsiSend _ params => (params.length + 3) / 4
  | _ => 0

/-- The row of the operation's opcode is in the opcode map and admits its command word; for every operation but
`dsi.send` the row says how many operand words follow, and for `dsi.send` the packed parameters come after them
(R172). -/
def Statement (i : Instr) : Prop :=
  ∃ r, opRow (Fields.ofWord i.fields.toWord).op = some r ∧ r.admits (Fields.ofWord i.fields.toWord) = true
    ∧ i.operands.length = r.ops + packedWords i

/-- The three parts of the statement, on the fields before they are packed into a word. -/
theorem of_fields {i : Instr} (r : OpRow) (hrow : opRow i.fields.op = some r) (hadmits : r.admits i.fields = true)
    (hlen : i.operands.length = r.ops + packedWords i) : Statement i :=
  ⟨r, by rw [Fields.ofWord_toWord]; exact hrow, by rw [Fields.ofWord_toWord]; exact hadmits, hlen⟩

theorem dsiInit (lanes : BitVec 4) (mode : DisplayMode) (bitClock pixelClock : Word) : Statement (.dsiInit lanes mode bitClock pixelClock) :=
  of_fields _ rfl (by simp [OpRow.admits, Instr.fields, bareFields]) rfl

theorem dsiSend (cmd : Byte) (params : List Byte) : Statement (.dsiSend cmd params) :=
  of_fields _ rfl (by simp [OpRow.admits, Instr.fields, bareFields, immLow_reserved])
    (by simp [Instr.operands, packedWords, length_packLe, Nat.add_comm])

theorem dsiRead (cmd : Byte) (len : Byte) : Statement (.dsiRead cmd len) :=
  of_fields _ rfl (by simp [OpRow.admits, Instr.fields, bareFields]) rfl

theorem dsiUlpsEnter : Statement (.dsiUlpsEnter) :=
  of_fields _ rfl (by simp [OpRow.admits, Instr.fields, bareFields]) rfl

theorem dsiUlpsExit : Statement (.dsiUlpsExit) :=
  of_fields _ rfl (by simp [OpRow.admits, Instr.fields, bareFields]) rfl

theorem dsiTeirqEnable : Statement (.dsiTeirqEnable) :=
  of_fields _ rfl (by simp [OpRow.admits, Instr.fields, bareFields]) rfl

theorem dsiTeirqDisable : Statement (.dsiTeirqDisable) :=
  of_fields _ rfl (by simp [OpRow.admits, Instr.fields, bareFields]) rfl

theorem dsiIsTe (status : Word) : Statement (.dsiIsTe status) :=
  of_fields _ rfl (by simp [OpRow.admits, Instr.fields, bareFields]) rfl

theorem dsiIsError (status : Word) : Statement (.dsiIsError status) :=
  of_fields _ rfl (by simp [OpRow.admits, Instr.fields, bareFields]) rfl

theorem dsiClearError (status : Word) : Statement (.dsiClearError status) :=
  of_fields _ rfl (by simp [OpRow.admits, Instr.fields, bareFields]) rfl

theorem dsiSleep : Statement (.dsiSleep) :=
  of_fields _ rfl (by simp [OpRow.admits, Instr.fields, bareFields]) rfl

theorem dsiWakeup : Statement (.dsiWakeup) :=
  of_fields _ rfl (by simp [OpRow.admits, Instr.fields, bareFields]) rfl

theorem lcdcSetTiming (t : TimingCounts) : Statement (.lcdcSetTiming t) :=
  of_fields _ rfl (by simp [OpRow.admits, Instr.fields, bareFields]) rfl

theorem lcdcSetModeDefaults : Statement (.lcdcSetModeDefaults) :=
  of_fields _ rfl (by simp [OpRow.admits, Instr.fields, bareFields]) rfl

theorem lcdcSetFormat (l : Layer) (tag : BitVec 16) : Statement (.lcdcSetFormat l tag) :=
  of_fields _ rfl (by simp [OpRow.admits, Instr.fields, bareFields]) rfl

theorem lcdcSetBlend (l : Layer) (mode : BlendMode) (alpha : Byte) : Statement (.lcdcSetBlend l mode alpha) :=
  of_fields _ rfl (by simp [OpRow.admits, Instr.fields, bareFields, immLow_reserved]) rfl

theorem lcdcSetCkey (l : Layer) (matchRgb replaceRgb : Word) (replaceAlpha : Byte) : Statement (.lcdcSetCkey l matchRgb replaceRgb replaceAlpha) :=
  of_fields _ rfl (by simp [OpRow.admits, Instr.fields, bareFields, immLow_reserved]) rfl

theorem lcdcSetCkeyAlpha (l : Layer) (alpha : Byte) : Statement (.lcdcSetCkeyAlpha l alpha) :=
  of_fields _ rfl (by simp [OpRow.admits, Instr.fields, bareFields, immLow_reserved]) rfl

theorem lcdcSetGeometry (l : Layer) (pos size zoom : Word) : Statement (.lcdcSetGeometry l pos size zoom) :=
  of_fields _ rfl (by simp [OpRow.admits, Instr.fields, bareFields]) rfl

theorem lcdcWriteAddr (l : Layer) (c : Channel) (addr : Word) : Statement (.lcdcWriteAddr l c addr) :=
  of_fields _ rfl (by simp [OpRow.admits, Instr.fields, bareFields]) rfl

theorem lcdcEnable (l : Layer) (on : Bool) : Statement (.lcdcEnable l on) :=
  of_fields _ rfl (by simp [OpRow.admits, Instr.fields, bareFields]) rfl

theorem lcdcSetPitch (l : Layer) (pitch : BitVec 16) : Statement (.lcdcSetPitch l pitch) :=
  of_fields _ rfl (by simp [OpRow.admits, Instr.fields, bareFields]) rfl

theorem lcdcSetVmirror (l : Layer) (on : Bool) : Statement (.lcdcSetVmirror l on) :=
  of_fields _ rfl (by simp [OpRow.admits, Instr.fields, bareFields]) rfl

theorem lcdcReadFormat (l : Layer) : Statement (.lcdcReadFormat l) :=
  of_fields _ rfl (by simp [OpRow.admits, Instr.fields, bareFields]) rfl

theorem lcdcStart : Statement (.lcdcStart) :=
  of_fields _ rfl (by simp [OpRow.admits, Instr.fields, bareFields]) rfl

theorem lcdcArmTe : Statement (.lcdcArmTe) :=
  of_fields _ rfl (by simp [OpRow.admits, Instr.fields, bareFields]) rfl

theorem lcdcTeTrigger : Statement (.lcdcTeTrigger) :=
  of_fields _ rfl (by simp [OpRow.admits, Instr.fields, bareFields]) rfl

theorem lcdcErrorClr : Statement (.lcdcErrorClr) :=
  of_fields _ rfl (by simp [OpRow.admits, Instr.fields, bareFields]) rfl

theorem irqEnable (mask : Word) : Statement (.irqEnable mask) :=
  of_fields _ rfl (by simp [OpRow.admits, Instr.fields, bareFields]) rfl

theorem irqDisable : Statement (.irqDisable) :=
  of_fields _ rfl (by simp [OpRow.admits, Instr.fields, bareFields]) rfl

theorem lcdcReset : Statement (.lcdcReset) :=
  of_fields _ rfl (by simp [OpRow.admits, Instr.fields, bareFields]) rfl

theorem hostSetCallback (l : Layer) (id : Option CallbackId) : Statement (.hostSetCallback l id) := by
  cases id <;> exact of_fields _ rfl (by simp [OpRow.admits, Instr.fields, bareFields, callbackFields]) rfl

theorem hostSetFaultCallback (id : Option CallbackId) : Statement (.hostSetFaultCallback id) := by
  cases id <;> exact of_fields _ rfl (by simp [OpRow.admits, Instr.fields, bareFields, callbackFields]) rfl

theorem irqReadStatus : Statement (.irqReadStatus) :=
  of_fields _ rfl (by simp [OpRow.admits, Instr.fields, bareFields]) rfl

theorem irqNumber : Statement (.irqNumber) :=
  of_fields _ rfl (by simp [OpRow.admits, Instr.fields, bareFields]) rfl

end Sys2Proof.Laws.RowAdmits
end

