-- ==== Sys2Proof/Laws/Step.lean ====
section
/-! SUPPORT. What one step of the machine can do, said once: a property that every kind of step keeps is kept by
`step`, and along a run. -/

namespace Sys2Proof.Machine

/-- A host step, when the handler does not run: a step inside a blocking operation, or the issue of the operation at the
head of the command stream. -/
theorem hostStep_cases {s t : State} (h : hostStep s = .next t) :
    t = s
      ∨ (∃ i rest u, decode s.prog.words = .ok (i, rest) ∧ exec i s = .next u ∧ t = consume rest u
          ∧ s.isr.active = false ∧ s.phase = .ready)
      ∨ (∃ cmd len t0 buf, s.phase = .reading cmd len t0 buf .poll ∧ t = readPoll cmd len t0 buf s)
      ∨ (∃ cmd len t0 buf, s.phase = .reading cmd len t0 buf .drain ∧ t = readDrain len buf s)
      ∨ (∃ t0, s.phase = .ulpsEntering t0 ∧ t = ulpsEnterWait t0 s)
      ∨ (∃ t0, s.phase = .ulpsExiting t0 ∧ t = ulpsExitWait t0 s) := by
  unfold hostStep at h
  split at h
  · exact .inl (by simpa using h.symm)
  rename_i hisr
  split at h
  · rename_i hphase
    split at h
    · exact .inl (by simpa using h.symm)
    unfold hostIssue at h
    split at h
    · cases h
    rename_i i rest hd
    split at h
    · rename_i u hu
      exact .inr (.inl ⟨i, rest, u, hd, hu, by simpa using h.symm, by simpa using hisr, hphase⟩)
    · cases h
    · cases h
  · rename_i cmd len t0 buf hphase
    exact .inr (.inr (.inl ⟨cmd, len, t0, buf, hphase, by simpa using h.symm⟩))
  · rename_i cmd len t0 buf hphase
    exact .inr (.inr (.inr (.inl ⟨cmd, len, t0, buf, hphase, by simpa using h.symm⟩)))
  · rename_i t0 hphase
    exact .inr (.inr (.inr (.inr (.inl ⟨t0, hphase, by simpa using h.symm⟩))))
  · rename_i t0 hphase
    exact .inr (.inr (.inr (.inr (.inr ⟨t0, hphase, by simpa using h.symm⟩))))

/-- An ISR step: handler entry, a work item, the handler's return, or nothing. -/
theorem isrStep_cases {s t : State} (h : isrStep s = .next t) :
    t = s
      ∨ (s.isr.active = false ∧ s.irqLine = true ∧ t = handlerEntry s)
      ∨ (s.isr.active = true ∧ s.isr.work = [] ∧ t = handlerReturn s)
      ∨ (∃ a rest u, s.isr.active = true ∧ s.isr.work = a :: rest ∧ exec a.instr s = .next u
          ∧ t = workDone s rest u) := by
  unfold isrStep at h
  split at h
  · rename_i hact
    split at h
    · rename_i hw
      exact .inr (.inr (.inl ⟨hact, hw, by simpa using h.symm⟩))
    · rename_i a rest hw
      split at h
      · rename_i u hu
        exact .inr (.inr (.inr ⟨a, rest, u, hact, hw, hu, by simpa using h.symm⟩))
      · cases h
      · cases h
  · rename_i hact
    split at h
    · rename_i hl
      exact .inr (.inl ⟨by simpa using hact, hl, by simpa using h.symm⟩)
    · exact .inl (by simpa using h.symm)

/-- A step of the machine is a step of the agent the schedule names, in a state with no model fault. -/
theorem step_eq (s : State) :
    step s = match s.faulted with
      | some c => .fault (.halted c)
      | none => runChoice (nextChoice s) s.popChoice := rfl

/-- What a scheduled step keeps, from what each kind of step keeps. -/
theorem runChoice_keeps {P : State → Prop} (c : Choice)
    (op : ∀ i s t, P s → exec i s = .next t → P t)
    (words : ∀ s ws, P s → P (s.setWords ws))
    (work : ∀ s t rest, P t → P (workDone s rest t))
    (poll : ∀ cmd len t0 buf s, P s → P (readPoll cmd len t0 buf s))
    (drain : ∀ len buf s, P s → P (readDrain len buf s))
    (enterWait : ∀ t0 s, P s → P (ulpsEnterWait t0 s))
    (exitWait : ∀ t0 s, P s → P (ulpsExitWait t0 s))
    (entry : ∀ s, P s → P (handlerEntry s))
    (ret : ∀ s, P s → s.isr.work = [] → P (handlerReturn s))
    (link : ∀ s, P s → P (linkStep s))
    (scan : ∀ s, P s → P (scanStep s))
    (timer : ∀ s, P s → P (timerStep s))
    (env : ∀ e s, P s → P (envStep e s))
    (pixel : ∀ a b s, P s → P (producerWrite a b s))
    {s t : State} (hs : P s) (h : runChoice c s = .next t) : P t := by
  cases c with
  | host =>
    rcases hostStep_cases h with rfl | ⟨i, rest, u, _, hu, rfl, _⟩ | ⟨cmd, len, t0, buf, _, rfl⟩ |
      ⟨cmd, len, t0, buf, _, rfl⟩ | ⟨t0, _, rfl⟩ | ⟨t0, _, rfl⟩
    · exact hs
    · have hP := op i s u hs hu
      unfold consume
      split
      · exact hP
      · exact words _ _ hP
    · exact poll _ _ _ _ _ hs
    · exact drain _ _ _ hs
    · exact enterWait _ _ hs
    · exact exitWait _ _ hs
  | isr =>
    rcases isrStep_cases h with rfl | ⟨_, _, rfl⟩ | ⟨_, hw, rfl⟩ | ⟨a, rest, u, _, _, hu, rfl⟩
    · exact hs
    · exact entry _ hs
    · exact ret _ hs hw
    · exact work _ _ _ (op _ _ _ hs hu)
  | link =>
    cases h
    exact link _ hs
  | scan =>
    cases h
    exact scan _ hs
  | timer =>
    cases h
    exact timer _ hs
  | env e =>
    cases h
    exact env _ _ hs
  | pixelWrite a b =>
    cases h
    exact pixel _ _ _ hs
  | rawAccess a n => cases h

/-- What every step keeps, from what each kind of step keeps. -/
theorem step_keeps {P : State → Prop}
    (pop : ∀ s, P s → P s.popChoice)
    (op : ∀ i s t, P s → exec i s = .next t → P t)
    (words : ∀ s ws, P s → P (s.setWords ws))
    (work : ∀ s t rest, P t → P (workDone s rest t))
    (poll : ∀ cmd len t0 buf s, P s → P (readPoll cmd len t0 buf s))
    (drain : ∀ len buf s, P s → P (readDrain len buf s))
    (enterWait : ∀ t0 s, P s → P (ulpsEnterWait t0 s))
    (exitWait : ∀ t0 s, P s → P (ulpsExitWait t0 s))
    (entry : ∀ s, P s → P (handlerEntry s))
    (ret : ∀ s, P s → s.isr.work = [] → P (handlerReturn s))
    (link : ∀ s, P s → P (linkStep s))
    (scan : ∀ s, P s → P (scanStep s))
    (timer : ∀ s, P s → P (timerStep s))
    (env : ∀ e s, P s → P (envStep e s))
    (pixel : ∀ a b s, P s → P (producerWrite a b s))
    {s t : State} (hs : P s) (h : step s = .next t) : P t := by
  rw [step_eq] at h
  split at h
  · cases h
  · exact runChoice_keeps _ op words work poll drain enterWait exitWait entry ret link scan timer env pixel
      (pop s hs) h

/-! ## Small frames of the step's own updates -/

@[simp] theorem workDone_frame (s : State) (rest : List Action) (t : State) :
    (workDone s rest t).dsi = t.dsi ∧ (workDone s rest t).link = t.link ∧ (workDone s rest t).irq = t.irq ∧
    (workDone s rest t).tim = t.tim ∧ (workDone s rest t).layers = t.layers ∧ (workDone s rest t).frame = t.frame ∧
    (workDone s rest t).cb = t.cb ∧ (workDone s rest t).phase = t.phase ∧ (workDone s rest t).now = t.now ∧
    (workDone s rest t).faulted = t.faulted ∧ (workDone s rest t).logs = t.logs ∧ (workDone s rest t).mem = t.mem ∧
    (workDone s rest t).prog = t.prog ∧ (workDone s rest t).windows = t.windows ∧ (workDone s rest t).sched = t.sched ∧
    (workDone s rest t).draws = t.draws ∧ (workDone s rest t).ret = s.ret := by
  generalize h : workDone s rest t = u
  unfold workDone at h
  split at h <;> (subst h; simp)

@[simp] theorem timerStep_frame (s : State) :
    (timerStep s).dsi = s.dsi ∧ (timerStep s).link = s.link ∧ (timerStep s).irq = s.irq ∧
    (timerStep s).tim = s.tim ∧ (timerStep s).layers = s.layers ∧ (timerStep s).frame = s.frame ∧
    (timerStep s).cb = s.cb ∧ (timerStep s).phase = s.phase ∧ (timerStep s).isr = s.isr ∧
    (timerStep s).now = s.now + 1 ∧ (timerStep s).faulted = s.faulted ∧ (timerStep s).logs = s.logs ∧
    (timerStep s).mem = s.mem ∧ (timerStep s).prog = s.prog ∧ (timerStep s).windows = s.windows ∧
    (timerStep s).sched = s.sched ∧
    (timerStep s).draws = s.draws ∧ (timerStep s).ret = s.ret := by
  and_intros <;> rfl

/-! ## Runs -/

@[simp] theorem State.follow_zero (s : State) (choice : Nat → Choice) : s.follow choice 0 = .next s := rfl

theorem State.follow_succ (s : State) (choice : Nat → Choice) (n : Nat) :
    s.follow choice (n + 1) = (match s.follow choice n with
      | .next t => step (t.choose (choice n))
      | .fault r => .fault r
      | .refused r => .refused r) := rfl

/-- What every step keeps of a state and its schedule holds along a run. -/
theorem State.follow_keeps {P : State → Prop} (choose : ∀ s c, P s → P (s.choose c))
    (keeps : ∀ s t, P s → step s = .next t → P t) {s : State} (hs : P s) (choice : Nat → Choice) (n : Nat) {t : State}
    (h : s.follow choice n = .next t) : P t := by
  induction n generalizing t with
  | zero => cases h; exact hs
  | succ n ih =>
    rw [State.follow_succ] at h
    split at h
    case h_1 u hu => exact keeps _ _ (choose _ _ (ih hu)) h
    all_goals cases h

/-- R480: an observation is that of a final state the run reaches, and no state before it is final. -/
theorem State.observation_first {s : State} {choice : Nat → Choice} {n : Nat} {o : Observation}
    (h : s.observation choice n = some o) :
    ∃ m, m ≤ n ∧ s.follow choice m = .next o.state ∧ o.state.final = true ∧ o.logs = o.state.logs
      ∧ ∀ j t, j < m → s.follow choice j = .next t → t.final = false := by
  have observe : ∀ {t : State} {o : Observation}, t.observe = some o → t.final = true ∧ o.state = t ∧ o.logs = t.logs := by
    intro t o h
    unfold State.observe at h
    split at h
    · rename_i hf; cases h; exact ⟨hf, rfl, rfl⟩
    · cases h
  have before : ∀ n, s.observation choice n = none →
      ∀ j t, j ≤ n → s.follow choice j = .next t → t.final = false := by
    intro n
    induction n with
    | zero =>
      intro h j t hj ht
      cases Nat.le_zero.1 hj
      cases ht
      simpa [State.observation, State.observe] using h
    | succ n ih =>
      intro h j t hj ht
      unfold State.observation at h
      split at h
      · cases h
      rename_i hn
      rcases Nat.le_succ_iff.1 hj with hj | rfl
      · exact ih hn j t hj ht
      · rw [ht] at h
        simpa [State.observe] using h
  induction n with
  | zero =>
    obtain ⟨hf, hs, hl⟩ := observe h
    exact ⟨0, Nat.le_refl _, by rw [hs]; rfl, by rw [hs]; exact hf, by rw [hs]; exact hl,
      fun j _ hj => absurd hj (Nat.not_lt_zero j)⟩
  | succ n ih =>
    unfold State.observation at h
    split at h
    case h_1 o' ho =>
      cases h
      obtain ⟨m, hm, r⟩ := ih ho
      exact ⟨m, Nat.le_succ_of_le hm, r⟩
    case h_2 hn =>
      split at h
      case h_1 t ht =>
        obtain ⟨hf, hs, hl⟩ := observe h
        exact ⟨n + 1, Nat.le_refl _, by rw [hs]; exact ht, by rw [hs]; exact hf, by rw [hs]; exact hl,
          fun j u hj hu => before n hn j u (Nat.lt_succ_iff.1 hj) hu⟩
      all_goals cases h

/-- R480: a run that reaches a final state has an observation. -/
theorem State.observation_isSome {s t : State} {choice : Nat → Choice} {n : Nat} (h : s.follow choice n = .next t)
    (hf : t.final = true) : (s.observation choice n).isSome = true := by
  cases n with
  | zero => cases h; simp [State.observation, State.observe, hf]
  | succ n =>
    unfold State.observation
    split
    · rfl
    · rw [h]; simp [State.observe, hf]

/-- R446, R480: a program that has raised a model fault does not terminate: naming the TIMER for ever is then a fair run,
which stops at once and has no observation. -/
theorem State.not_terminates_of_faulted {s : State} {c : FaultCode} (h : s.faulted = some c) : ¬ s.terminates := by
  intro ht
  have stopped : ∀ n, s.follow (fun _ => .timer) (n + 1) = .fault (.halted c) := by
    intro n
    induction n with
    | zero => rw [State.follow_succ, State.follow_zero]; simp [step_eq, State.choose, h]
    | succ n ih => rw [State.follow_succ, ih]
  have fair : s.fair (fun _ => .timer) := by
    refine ⟨fun a _ n hen => ?_, fun n t _ _ => ⟨n + 1, Nat.le_succ n, fun u hu => ?_⟩⟩
    · obtain ⟨t, ht, _⟩ := hen (n + 1) (Nat.le_succ n)
      rw [stopped] at ht
      cases ht
    · rw [stopped] at hu
      cases hu
  obtain ⟨n, hn⟩ := ht _ (fun _ _ _ e => Choice.noConfusion e) fair
  obtain ⟨o, ho⟩ := Option.isSome_iff_exists.1 hn
  obtain ⟨m, _, hm, hfin, _, _⟩ := State.observation_first ho
  cases m with
  | zero => cases hm; simp [State.final, State.unfaulted, h] at hfin
  | succ m => rw [stopped] at hm; cases hm

end Sys2Proof.Machine
end

