-- ==== Sys2Proof/Machine/Assembly.lean ====
section
/-! DEFINITION. The assembler syntax of the host operations (30_encoding.md R176): one operation as one line of text.
Numbers are written in decimal. No step of the machine reads it. -/

namespace Sys2Proof.Machine

/-- A layer operand (R176). -/
def asmLayer (l : Layer) : String :=
  match l with
  | .fg => "fg"
  | .bg => "bg"
  | .wb => "wb"
  | .sp => "sp"

/-- A channel operand (R176). -/
def asmChannel (c : Channel) : String :=
  match c with
  | .ch0 => "0"
  | .ch1 => "1"

/-- An on-or-off operand (R176). -/
def asmOnOff (on : Bool) : String := if on then "on" else "off"

/-- A number operand (R176). -/
def asmNum (n : Nat) : String := Nat.repr n

/-- A callback operand: an id or `none` (R176). -/
def asmCallback (id : Option CallbackId) : String :=
  match id with
  | none => "none"
  | some i => asmNum i.toNat

/-- A geometry operand, `(x,y)`, from the fields of its word (R172, R176). -/
def asmPair (w : Word) : String :=
  "(" ++ asmNum (w.extractLsb' 0 12).toNat ++ "," ++ asmNum (w.extractLsb' 16 12).toNat ++ ")"

/-- The operands of an operation as text, in order (R176). -/
def asmOperands (i : Instr) : List String :=
  match i with
  | .dsiInit lanes mode bc pc =>
    ["lanes=" ++ asmNum lanes.toNat, if mode = .video then "video" else "cmd", asmNum bc.toNat, asmNum pc.toNat]
  | .dsiSend cmd params => (cmd :: params).map (fun b => asmNum b.toNat)
  | .dsiRead cmd len => [asmNum cmd.toNat, asmNum len.toNat]
  | .dsiIsTe w => [asmNum w.toNat]
  | .dsiIsError w => [asmNum w.toNat]
  | .dsiClearError w => [asmNum w.toNat]
  | .lcdcSetTiming t =>
    [t.hTotal, t.hActive, t.hFp, t.hBp, t.hSyncStart, t.hSyncEnd, t.vTotal, t.vActive, t.vFp, t.vBp, t.vSyncStart,
      t.vSyncEnd, t.standbyVsync].map (fun w => asmNum w.toNat)
  | .lcdcSetFormat l tag => [asmLayer l, asmNum tag.toNat]
  | .lcdcSetBlend l mode alpha =>
    [asmLayer l, if mode = .pixelAlpha then "pixel" else "const", asmNum alpha.toNat]
  | .lcdcSetCkey l m r ra => [asmLayer l, asmNum m.toNat, asmNum r.toNat, asmNum ra.toNat]
  | .lcdcSetCkeyAlpha l alpha => [asmLayer l, asmNum alpha.toNat]
  | .lcdcSetGeometry l p sz z => [asmLayer l, asmPair p, asmPair sz, asmPair z]
  | .lcdcWriteAddr l c a => [asmLayer l, asmChannel c, asmNum a.toNat]
  | .lcdcEnable l on => [asmLayer l, asmOnOff on]
  | .lcdcSetPitch l pitch => [asmLayer l, asmNum pitch.toNat]
  | .lcdcSetVmirror l on => [asmLayer l, asmOnOff on]
  | .lcdcReadFormat l => [asmLayer l]
  | .irqEnable mask => [asmNum mask.toNat]
  | .hostSetCallback l id => [asmLayer l, asmCallback id]
  | .hostSetFaultCallback id => [asmCallback id]
  | .dsiUlpsEnter | .dsiUlpsExit | .dsiTeirqEnable | .dsiTeirqDisable | .dsiSleep | .dsiWakeup
  | .lcdcSetModeDefaults | .lcdcStart | .lcdcArmTe | .lcdcTeTrigger | .lcdcErrorClr | .irqDisable | .lcdcReset
  | .irqReadStatus | .irqNumber => []

/-- The mnemonic of an operation: its row's, in the opcode map (R175). -/
def asmMnemonic (i : Instr) : String :=
  match opRow i.fields.op with
  | some r => r.mnemonic
  | none => ""

/-- One line of assembler text (R176). -/
def asmLine (i : Instr) : String :=
  match asmOperands i with
  | [] => asmMnemonic i
  | os => asmMnemonic i ++ " " ++ String.intercalate ", " os

end Sys2Proof.Machine
end

