-- ==== Sys2Proof/Tests/Slice0.lean ====
section
/-! SUPPORT. The model's own tests. The words, packets, states and results are those of the spec's test vectors
(95_test_vectors.md, by their ids), or are written out from the rule named. The last part shows, for each statement
that has hypotheses, states and operands that meet them. -/

namespace Sys2Proof.Tests

open Sys2Proof Sys2Proof.Machine

/-! ## Well-formedness -/

/-- R172: a parameter count that does not fit its operand word is refused (shown without building the list). -/
theorem test_wellFormed_refuses_long_send : (Instr.dsiSend 0x2A#8 (List.replicate (2 ^ 32) 0#8)).wellFormed = false := by
  have h : (List.replicate (2 ^ 32) (0#8)).length = 2 ^ 32 := List.length_replicate
  unfold Instr.wellFormed
  simp only [h]
  rfl

theorem test_wellFormed_accepts_send : (Instr.dsiSend 0x2A#8 [0#8, 1#8]).wellFormed = true := by decide

/-! ## Decoding: one word of every row (95_test_vectors.md 2.1; R171 to R175) -/

theorem test_decode_dsiInit :
    decode [0x00002801#32, 0x190#32, 0x32#32] = .ok (.dsiInit 2#4 .video 400#32 50#32, []) := rfl

theorem test_decode_dsiInit_command :
    decode [0x00001001#32, 0x64#32, 0xA#32] = .ok (.dsiInit 1#4 .command 100#32 10#32, []) := rfl

/-- R174: a raw lane count of 3 is decoded, and refused only by the operation. -/
theorem test_decode_dsiInit_three_lanes :
    decode [0x00003001#32, 0#32, 0#32] = .ok (.dsiInit 3#4 .command 0#32 0#32, []) := rfl

theorem test_decode_dsiSend :
    decode [0x002A0002#32, 4#32, 0xC5010000#32]
      = .ok (.dsiSend 0x2A#8 [0x00#8, 0x00#8, 0x01#8, 0xC5#8], []) := rfl

theorem test_decode_dsiSend_none : decode [0x00110002#32, 0#32] = .ok (.dsiSend 0x11#8 [], []) := rfl

theorem test_decode_dsiRead : decode [0x010A0003#32] = .ok (.dsiRead 0x0A#8 1#8, []) := rfl

theorem test_decode_dsiUlpsEnter : decode [0x00000004#32] = .ok (.dsiUlpsEnter, []) := rfl

theorem test_decode_dsiUlpsExit : decode [0x00000005#32] = .ok (.dsiUlpsExit, []) := rfl

theorem test_decode_dsiTeirqEnable : decode [0x00000006#32] = .ok (.dsiTeirqEnable, []) := rfl

theorem test_decode_dsiTeirqDisable : decode [0x00000007#32] = .ok (.dsiTeirqDisable, []) := rfl

theorem test_decode_dsiIsTe : decode [0x00000008#32, 0x20#32] = .ok (.dsiIsTe 0x20#32, []) := rfl

theorem test_decode_dsiIsError : decode [0x00000009#32, 0x400#32] = .ok (.dsiIsError 0x400#32, []) := rfl

theorem test_decode_dsiClearError : decode [0x0000000A#32, 0xE00#32] = .ok (.dsiClearError 0xE00#32, []) := rfl

theorem test_decode_dsiSleep : decode [0x0000000B#32] = .ok (.dsiSleep, []) := rfl

theorem test_decode_dsiWakeup : decode [0x0000000C#32] = .ok (.dsiWakeup, []) := rfl

/-- The thirteen counts of V-T1. -/
def sampleCounts : TimingCounts :=
  { hTotal := 500, hActive := 454, hFp := 16, hBp := 20, hSyncStart := 0, hSyncEnd := 10, vTotal := 480,
    vActive := 454, vFp := 10, vBp := 12, vSyncStart := 0, vSyncEnd := 4, standbyVsync := 0 }

theorem test_decode_lcdcSetTiming :
    decode [0x00000010#32, 0x1F4#32, 0x1C6#32, 0x10#32, 0x14#32, 0x0#32, 0xA#32, 0x1E0#32, 0x1C6#32, 0xA#32, 0xC#32,
        0x0#32, 0x4#32, 0x0#32]
      = .ok (.lcdcSetTiming sampleCounts, []) := rfl

theorem test_decode_lcdcSetModeDefaults : decode [0x00000011#32] = .ok (.lcdcSetModeDefaults, []) := rfl

theorem test_decode_lcdcSetFormat : decode [0x00050320#32] = .ok (.lcdcSetFormat .sp 5#16, []) := rfl

theorem test_decode_lcdcSetBlend : decode [0x009F0021#32] = .ok (.lcdcSetBlend .fg .constantAlpha 0x9F#8, []) := rfl

theorem test_decode_lcdcSetBlend_pixel :
    decode [0x00100921#32] = .ok (.lcdcSetBlend .bg .pixelAlpha 0x10#8, []) := rfl

theorem test_decode_lcdcSetCkey :
    decode [0x00800122#32, 0xFF00#32, 0#32] = .ok (.lcdcSetCkey .bg 0xFF00#32 0#32 0x80#8, []) := rfl

theorem test_decode_lcdcSetCkeyAlpha : decode [0x00400023#32] = .ok (.lcdcSetCkeyAlpha .fg 0x40#8, []) := rfl

theorem test_decode_lcdcSetGeometry :
    decode [0x00000024#32, 0x0#32, 0x01C601C6#32, 0x01C601C6#32]
      = .ok (.lcdcSetGeometry .fg 0#32 0x01C601C6#32 0x01C601C6#32, []) := rfl

theorem test_decode_lcdcWriteAddr :
    decode [0x00000425#32, 0x20200000#32] = .ok (.lcdcWriteAddr .fg .ch1 0x20200000#32, []) := rfl

theorem test_decode_lcdcEnable : decode [0x00000826#32] = .ok (.lcdcEnable .fg true, []) := rfl

theorem test_decode_lcdcSetPitch : decode [0x038C0027#32] = .ok (.lcdcSetPitch .fg 908#16, []) := rfl

theorem test_decode_lcdcSetVmirror : decode [0x00000A28#32] = .ok (.lcdcSetVmirror .wb true, []) := rfl

theorem test_decode_lcdcReadFormat : decode [0x00000029#32] = .ok (.lcdcReadFormat .fg, []) := rfl

theorem test_decode_lcdcStart : decode [0x00000030#32] = .ok (.lcdcStart, []) := rfl

theorem test_decode_lcdcArmTe : decode [0x00000031#32] = .ok (.lcdcArmTe, []) := rfl

theorem test_decode_lcdcTeTrigger : decode [0x00000032#32] = .ok (.lcdcTeTrigger, []) := rfl

theorem test_decode_lcdcErrorClr : decode [0x00000033#32] = .ok (.lcdcErrorClr, []) := rfl

theorem test_decode_irqEnable : decode [0x00000034#32, 0x181#32] = .ok (.irqEnable 0x181#32, []) := rfl

theorem test_decode_irqDisable : decode [0x00000035#32] = .ok (.irqDisable, []) := rfl

theorem test_decode_lcdcReset : decode [0x00000036#32] = .ok (.lcdcReset, []) := rfl

theorem test_decode_hostSetCallback : decode [0x00010837#32] = .ok (.hostSetCallback .fg (some 1#16), []) := rfl

theorem test_decode_hostSetCallback_none : decode [0x00000037#32] = .ok (.hostSetCallback .fg none, []) := rfl

theorem test_decode_hostSetFaultCallback :
    decode [0x00030838#32] = .ok (.hostSetFaultCallback (some 3#16), []) := rfl

theorem test_decode_irqReadStatus : decode [0x00000039#32] = .ok (.irqReadStatus, []) := rfl

theorem test_decode_irqNumber : decode [0x0000003A#32] = .ok (.irqNumber, []) := rfl

/-- The refused words of 95_test_vectors.md 2.1 (R173, R174). -/
theorem test_refused_words :
    ∀ w ∈ [0x00000000#32, 0x0000000D#32, 0x0000003B#32, 0x00000130#32, 0x01110002#32, 0x00010037#32, 0x00012801#32,
      0x00000426#32], decode [w, 0#32, 0#32] = .error .illegalCommand := by
  intro w hw
  simp only [List.mem_cons, List.not_mem_nil, or_false] at hw
  rcases hw with rfl | rfl | rfl | rfl | rfl | rfl | rfl | rfl <;> rfl

/-- Log entry 5: a stream that ends inside an operation. -/
theorem test_truncated_stream : decode [0x00000034#32] = .error .truncated := rfl

/-- Every row's fixed bits, opcode included, are the mask of its row of the opcode table (first half). -/
theorem test_row_masks_first :
    (opTable.take 18).map (fun r => (r.mnemonic, r.fixedMask)) =
      [("dsi.init", 0xFFFF07FF#32), ("dsi.send", 0xFF00FFFF#32), ("dsi.read", 0x0000FFFF#32),
        ("dsi.ulps_enter", 0xFFFFFFFF#32), ("dsi.ulps_exit", 0xFFFFFFFF#32), ("dsi.teirq_enable", 0xFFFFFFFF#32),
        ("dsi.teirq_disable", 0xFFFFFFFF#32), ("dsi.is_te", 0xFFFFFFFF#32), ("dsi.is_error", 0xFFFFFFFF#32),
        ("dsi.clear_error", 0xFFFFFFFF#32), ("dsi.sleep", 0xFFFFFFFF#32), ("dsi.wakeup", 0xFFFFFFFF#32),
        ("lcdc.set_timing", 0xFFFFFFFF#32), ("lcdc.set_mode_defaults", 0xFFFFFFFF#32),
        ("lcdc.set_format", 0x0000FCFF#32), ("lcdc.set_blend", 0xFF00F4FF#32), ("lcdc.set_ckey", 0xFF00FCFF#32),
        ("lcdc.set_ckey_alpha", 0xFF00FCFF#32)] := rfl

/-- The same, second half. -/
theorem test_row_masks_second :
    (opTable.drop 18).map (fun r => (r.mnemonic, r.fixedMask)) =
      [("lcdc.set_geometry", 0xFFFFFCFF#32), ("lcdc.write_addr", 0xFFFFF8FF#32), ("lcdc.enable", 0xFFFFF4FF#32),
        ("lcdc.set_pitch", 0x0000FCFF#32), ("lcdc.set_vmirror", 0xFFFFF4FF#32), ("lcdc.read_format", 0xFFFFFCFF#32),
        ("lcdc.start", 0xFFFFFFFF#32), ("lcdc.arm_te", 0xFFFFFFFF#32), ("lcdc.te_trigger", 0xFFFFFFFF#32),
        ("lcdc.error_clr", 0xFFFFFFFF#32), ("irq.enable", 0xFFFFFFFF#32), ("irq.disable", 0xFFFFFFFF#32),
        ("lcdc.reset", 0xFFFFFFFF#32), ("host.set_callback", 0x0000F4FF#32),
        ("host.set_fault_callback", 0x0000F7FF#32), ("irq.read_status", 0xFFFFFFFF#32),
        ("irq.number", 0xFFFFFFFF#32)] := rfl

/-- Whether an outcome is a next state of which `p` holds. -/
def nextWith (o : Host.Outcome State Fault Refusal) (p : State → Bool) : Bool :=
  match o with
  | .next t => p t
  | .fault _ => false
  | .refused _ => false

/-- Every row's word, its free fields zero, is fetched and run as the first operation after reset. -/
theorem test_rows_run_after_reset :
    opTable.all (fun r => (decodeTableWord 32 r.op.toNat).isSome
      && nextWith (step (State.reset.withFetchWord 32 r.op.toNat)) (fun _ => true)) = true := rfl

/-- R170: the second word of an operation is bits 63:32 of its table number. -/
theorem test_table_words : decodeTableWord 64 0x0000018100000034 = some (.irqEnable 0x181#32) := rfl

/-- R176. -/
theorem test_assembler_line : asmLine (.lcdcWriteAddr .fg .ch1 0x20200000#32) = "lcdc.write_addr fg, 1, 538968064" := by
  decide

/-! ## Packets and packing (95_test_vectors.md 2.2, 2.3) -/

theorem test_wire_exit_sleep :
    (Packet.short 0x05#6 0x11#8 0x00#8).wireBytes = [0x05#8, 0x11#8, 0x00#8, 0x36#8] := by decide

theorem test_wire_set_tear_on :
    (Packet.short 0x15#6 0x35#8 0x00#8).wireBytes = [0x15#8, 0x35#8, 0x00#8, 0x2F#8] := by decide

theorem test_wire_read : (Packet.short 0x06#6 0x0A#8 0x00#8).wireBytes = [0x06#8, 0x0A#8, 0x00#8, 0x3F#8] := by decide

theorem test_wire_long :
    (Packet.long 0x39#6 [0x2C#8, 0x01#8, 0x02#8]).wireBytes
      = [0x39#8, 0x03#8, 0x00#8, 0x09#8, 0x2C#8, 0x01#8, 0x02#8, 0x61#8, 0xA5#8] := by decide +kernel

theorem test_wire_long_columns :
    (Packet.long 0x39#6 [0x2A#8, 0x00#8, 0x00#8, 0x01#8, 0xC5#8]).wireBytes
      = [0x39#8, 0x05#8, 0x00#8, 0x36#8, 0x2A#8, 0x00#8, 0x00#8, 0x01#8, 0xC5#8, 0xC8#8, 0x94#8] := by decide +kernel

theorem test_crc_check_value :
    crc16 [0x31#8, 0x32#8, 0x33#8, 0x34#8, 0x35#8, 0x36#8, 0x37#8, 0x38#8, 0x39#8] = 0x6F91#16 := by decide +kernel

theorem test_crc_empty : crc16 [] = 0xFFFF#16 := by decide

theorem test_ecc_response_headers :
    ecc24 0x21#8 0x9C#8 0x00#8 = 0x1E#8 ∧ ecc24 0x02#8 0x00#8 0x01#8 = 0x3A#8 ∧ ecc24 0x1C#8 0x02#8 0x00#8 = 0x0C#8
      ∧ ecc24 0x1A#8 0x03#8 0x00#8 = 0x10#8 ∧ ecc24 0x22#8 0x12#8 0x34#8 = 0x20#8 := by decide

theorem test_pack_le :
    packLe [] = [] ∧ packLe [0x2A#8] = [0x0000002A#32] ∧ packLe [0x2C#8, 0x01#8, 0x02#8] = [0x0002012C#32]
      ∧ packLe [0x2A#8, 0x00#8, 0x00#8, 0x01#8, 0x3F#8] = [0x0100002A#32, 0x0000003F#32] := by decide

/-- The demultiplexer on V-R4 to V-R6, V-R8, V-R10 to V-R13. -/
theorem test_demux :
    demux [0x22#8, 0x12#8, 0x34#8, 0x20#8] 2 = .ok [0x12#8, 0x34#8]
      ∧ demux [0x22#8, 0x12#8, 0x34#8, 0x20#8] 1 = .ok [0x12#8]
      ∧ demux [0x02#8, 0x00#8, 0x01#8, 0x3A#8] 1 = .panelNack 0x0100#16
      ∧ demux [0x1C#8, 0x02#8, 0x00#8, 0x0C#8, 0xAB#8] 1 = .ok [0xAB#8]
      ∧ demux [0x1C#8, 0x02#8, 0x00#8, 0x0C#8, 0xAB#8] 4 = .malformed
      ∧ demux [0x21#8, 0x9C#8] 1 = .malformed
      ∧ demux [0x08#8, 0x00#8, 0x00#8, 0x00#8] 1 = .malformed
      ∧ demux [0x61#8, 0x9C#8, 0x00#8, 0x00#8] 1 = .ok [0x9C#8] := by decide

/-- V-R6: a good response of which a byte was discarded. -/
theorem test_drain_result : drainResult (.ok [0xAB#8]) 1 = .okWarn [0xAB#8] 1 := by decide

/-! ## States the tests start from -/

/-- After `dsi.init lanes=2, video, 400, 50` (V-I9), but for the open PHY counts and packet length, on a platform with one
display-capable window. -/
def ready : State :=
  { State.reset with
    dsi := { State.reset.dsi with
      configured := true, mode := some .video, lanes := some .two, pixDiv := 8#5, teEdge := some .rising }
    windows := [⟨0x20000000#32, 0x20FFFFFF#32⟩] }

/-- And after `lcdc.set_timing` (V-T1). -/
def timed : State := { ready with tim := timWritten sampleCounts .video }

/-- A Foreground layer that is enabled, with some format, a framebuffer on each channel, and 454 lines of 908 bytes. -/
def fgLayer : LayerState :=
  { sh :=
      { LayerRegs.por with
        fmt := some 1#5, vmirror := false, en := true, pitch := 908#16, size := { fst := 454, snd := 454 } }
    act := none, addr0 := some 0x20100000#32, addr1 := some 0x20200000#32, cur := .ch0, phase := .enabled }

/-- And with the Foreground layer enabled (the start of 95_test_vectors.md 2.12). -/
def shown : State := timed.putLayer .fg fgLayer

/-- And armed in software (V-F1). -/
def armed : State := { shown with frame := { shown.frame with fsm := .armedSoftware, valid := true } }

/-- And armed for the tearing-effect edge (V-F7). -/
def armedTe : State := { shown with frame := { shown.frame with fsm := .armedHardwareTE, arm := .te } }

/-- The frame in flight of V-F3. -/
def fgScan : Scan :=
  Scan.start 0 .video (timWritten sampleCounts .video)
    ⟨some { ch := .ch0, addr := 0x20100000#32, bytes := [] }, none, none, none⟩

/-- A frame scanning the Foreground layer on channel 0 (V-F3). -/
def scanning : State :=
  { shown.putLayer .fg { fgLayer with act := some fgLayer.sh } with
    frame := { shown.frame with fsm := .scanning, scan := some fgScan }
    link := { shown.link with data := .hsFrame, clk := .hs }
    irq := { shown.irq with status := 0x00000010#32 } }

/-- A fatal error pauses delivery, reported and masked (program P4, step 5). -/
def paused : State :=
  { shown with
    frame := { shown.frame with fsm := .error .axiBus }
    irq := { status := 0x00000090#32, enable := 0x00000101#32, fatalMasked := 1#2 } }

/-- A read that has been issued and has turned the bus around (V-R1). -/
def reading : State :=
  { ready with
    link := { ready.link with data := .bta, job := some (.txRead (.short 0x06#6 0x0A#8 0x00#8)) }
    phase := .reading 0x0A#8 1#8 0 [] .poll, ret := .waiting }

/-- The handler is running. -/
def inHandler (s : State) : State := { s with isr := { active := true, work := [] } }

/-- The ultra-low-power state has been entered (V-U2). -/
def asleepLanes : State := { ready with link := { ready.link with data := .ulps, clk := .ulps, ulps := .entered } }

/-- The PHY is gated (V-P1). -/
def gated : State := { ready with dsi := { ready.dsi with power := .off } }

/-- A write is being sent. -/
def sending : State := { ready with link := { ready.link with job := some (.txPkt (.short 0x05#6 0x11#8 0x00#8)) } }

/-- A WriteBack layer whose region is the bytes 0x20300000 to 0x20364A47 (R142: 454 lines of 908 bytes). -/
def wbLayer : LayerState := { fgLayer with addr0 := some 0x20300000#32, addr1 := none }

/-- A memory with a byte on each side of each end of that region. -/
def wbMem : Memory := [(0x202FFFFF, 0#8), (0x20300000, 1#8), (0x20364A47, 2#8), (0x20364A48, 3#8)]

/-- Armed, with WriteBack the one enabled layer. -/
def armedWb : State :=
  { timed.putLayer .wb wbLayer with frame := { timed.frame with fsm := .armedSoftware, valid := true }, mem := wbMem }

/-- The frame in flight that scans WriteBack. -/
def wbScan : Scan :=
  Scan.start 0 .video (timWritten sampleCounts .video)
    ⟨none, none, some { ch := .ch0, addr := 0x20300000#32, bytes := [] }, none⟩

/-- A frame scanning WriteBack. -/
def scanningWb : State :=
  { armedWb.putLayer .wb { wbLayer with act := some wbLayer.sh } with
    frame := { armedWb.frame with fsm := .scanning, valid := false, scan := some wbScan }
    link := { armedWb.link with data := .hsFrame, clk := .hs } }

/-- The bytes around the ends of the region are known, and those in it are not. -/
def wbUnknown (t : State) : Bool :=
  t.mem.read 0x202FFFFF == some 0#8 && t.mem.read 0x20300000 == none && t.mem.read 0x20364A47 == none
    && t.mem.read 0x20364A48 == some 3#8

/-! ## One step of each operation -/

/-- V-I10. -/
theorem test_dsiInit_resets_phy :
    nextWith (exec (.dsiInit 2#4 .video 400#32 50#32) { ready with irq := { ready.irq with status := 0x3E11#32 } })
      (fun t => t.irq.status == 0x11#32 && t.dsi.pixDiv == 8#5) = true := by decide

/-- V-I7. -/
theorem test_dsiInit_divisor_32 :
    nextWith (exec (.dsiInit 1#4 .command 320#32 10#32) State.reset)
      (fun t => t.ret == .returned .invalidConfig && !t.dsi.configured) = true := by decide

/-- V-S1, V-S5. -/
theorem test_dsiSend_short :
    nextWith (exec (.dsiSend 0x11#8 []) { ready with irq := { ready.irq with status := 0x1000#32 } })
      (fun t => t.link.job == some (.txPkt (.short 0x05#6 0x11#8 0x00#8)) && t.irq.status == 0#32) = true := by decide

/-- V-S8. -/
theorem test_dsiSend_unconfigured :
    nextWith (exec (.dsiSend 0x11#8 []) State.reset) (fun t => t.faulted == some .notConfigured) = true := by decide

/-- R245. -/
theorem test_dsiRead_issues :
    nextWith (exec (.dsiRead 0x0A#8 1#8) { ready with irq := { ready.irq with status := 0x3800#32 } })
      (fun t => t.phase == .reading 0x0A#8 1#8 0 [] .poll && t.irq.status == 0x0800#32) = true := by decide

/-- V-R16. -/
theorem test_dsiRead_in_handler :
    nextWith (exec (.dsiRead 0x0A#8 1#8) (inHandler ready)) (fun t => t.faulted == some .blockingInIsr) = true := by
  decide

/-- V-U2. -/
theorem test_dsiUlpsEnter_issues :
    nextWith (exec .dsiUlpsEnter ready) (fun t => t.link.job == some .ulpsEnter && t.link.ulps == .entered) = true := by
  decide

/-- V-U3. -/
theorem test_dsiUlpsEnter_twice :
    nextWith (exec .dsiUlpsEnter asleepLanes) (fun t => t.link == asleepLanes.link && t.ret == .returned .ok) = true := by
  decide

/-- V-U6. -/
theorem test_dsiUlpsExit_issues :
    nextWith (exec .dsiUlpsExit asleepLanes) (fun t => t.link.job == some .ulpsExit && t.phase == .ulpsExiting 0)
      = true := by decide

/-- V-U1. -/
theorem test_dsiUlpsExit_not_entered :
    nextWith (exec .dsiUlpsExit ready) (fun t => t.link == ready.link && t.ret == .returned .ok) = true := by decide

/-- V-C9. -/
theorem test_dsiTeirqEnable :
    nextWith (exec .dsiTeirqEnable { ready with irq := { ready.irq with enable := 1#32 } })
      (fun t => t.irq.enable == 0x21#32) = true := by decide

/-- V-C10. -/
theorem test_dsiTeirqDisable :
    nextWith (exec .dsiTeirqDisable { ready with irq := { ready.irq with enable := 0x21#32 } })
      (fun t => t.irq.enable == 1#32) = true := by decide

/-- V-C1, V-C2. -/
theorem test_dsiIsTe :
    nextWith (exec (.dsiIsTe 0x20#32) ready) (fun t => t.ret == .returned (.bool true)) = true
      ∧ nextWith (exec (.dsiIsTe 0x10#32) ready) (fun t => t.ret == .returned (.bool false)) = true := by decide

/-- V-C3 to V-C5. -/
theorem test_dsiIsError :
    nextWith (exec (.dsiIsError 0x400#32) ready) (fun t => t.ret == .returned (.bool true)) = true
      ∧ nextWith (exec (.dsiIsError 0x1180#32) ready) (fun t => t.ret == .returned (.bool false)) = true := by decide

/-- V-C7. -/
theorem test_dsiClearError :
    nextWith (exec (.dsiClearError 0xFFFFFFFF#32) { ready with irq := { ready.irq with status := 0x3FFF#32 } })
      (fun t => t.irq.status == 0x31FF#32) = true := by decide

/-- V-P1. -/
theorem test_dsiSleep_gates : nextWith (exec .dsiSleep ready) (fun t => t.dsi.power == .off) = true := by decide

/-- V-P7. -/
theorem test_dsiSleep_holds :
    nextWith (exec .dsiSleep sending) (fun t => t.dsi.power == .on && t.ret == .held) = true := by decide

/-- V-P3. -/
theorem test_dsiWakeup_starts_settle :
    nextWith (exec .dsiWakeup { gated with now := 5000 })
      (fun t => t.dsi.power == .on && t.dsi.settleFrom == some 5000) = true := by decide

/-- V-P6. -/
theorem test_dsiWakeup_when_on :
    nextWith (exec .dsiWakeup ready) (fun t => t.dsi.settleFrom == none && t.ret == .returned .ok) = true := by decide

/-- V-T1. -/
theorem test_lcdcSetTiming_pixels :
    nextWith (exec (.lcdcSetTiming sampleCounts) ready)
      (fun t => t.tim.smartPix == some 206116#24 && t.tim.dumbEn && t.tim.set) = true := by decide

/-- V-T3, V-T4. -/
theorem test_lcdcSetTiming_masks :
    nextWith (exec (.lcdcSetTiming { sampleCounts with hTotal := 0x1234, hActive := 4095, vActive := 4095 }) ready)
      (fun t => t.tim.smartPix == some 16769025#24 && t.tim.counts.map (fun c => c.hTotal) == some 0x234#12)
      = true := by decide

/-- V-I4. -/
theorem test_lcdcSetModeDefaults_unconfigured :
    nextWith (exec .lcdcSetModeDefaults State.reset) (fun t => t.faulted == some .notConfigured) = true := by decide

/-- V-T8. -/
theorem test_lcdcSetModeDefaults_sets :
    nextWith (exec .lcdcSetModeDefaults ready) (fun t => t.tim.set && t.tim.vsyncMode) = true := by decide

/-- V-L4. -/
theorem test_lcdcSetFormat_unsupported :
    nextWith (exec (.lcdcSetFormat .fg 67#16) timed)
      (fun t => t.ret == .returned .unsupportedFormat && t.layers.fg.phase == .disabled) = true := by decide

/-- V-L6. -/
theorem test_lcdcSetBlend_wb :
    nextWith (exec (.lcdcSetBlend .wb .pixelAlpha 0x80#8) timed)
      (fun t => t.layers == timed.layers && t.ret == .returned .ok) = true := by decide

/-- V-L7. -/
theorem test_lcdcSetBlend_fg :
    nextWith (exec (.lcdcSetBlend .fg .pixelAlpha 0x9F#8) timed)
      (fun t => t.layers.fg.sh.alpha == 0x9F#8 && t.layers.fg.sh.blend == .pixelAlpha) = true := by decide

/-- R344. -/
theorem test_lcdcSetCkey :
    nextWith (exec (.lcdcSetCkey .bg 0x00112233#32 0x00445566#32 0x80#8) timed)
      (fun t => t.layers.bg.sh.ckMatch == ⟨0x11#8, 0x22#8, 0x33#8⟩ && t.layers.bg.sh.ckRep == ⟨0x44#8, 0x55#8, 0x66#8⟩)
      = true := by decide

/-- V-L16. -/
theorem test_lcdcSetCkeyAlpha :
    nextWith (exec (.lcdcSetCkeyAlpha .fg 0x40#8) timed)
      (fun t => t.layers.fg.sh.ckAlpha == 0x40#8 && t.layers.fg.phase == .configuring) = true := by decide

/-- V-L17: 5000 is 0x1388. -/
theorem test_lcdcSetGeometry :
    nextWith (exec (.lcdcSetGeometry .fg 0#32 0x01C61388#32 0#32) timed)
      (fun t => t.layers.fg.sh.size.fst == 904#12 && t.layers.fg.sh.size.snd == 454#12) = true := by decide

/-- V-L13. -/
theorem test_lcdcSetPitch :
    nextWith (exec (.lcdcSetPitch .fg 907#16) shown)
      (fun t => t.layers.fg.sh.pitch == 907#16 && t.layers.fg.phase == .enabled) = true := by decide

/-- R349. -/
theorem test_lcdcSetVmirror :
    nextWith (exec (.lcdcSetVmirror .sp true) timed)
      (fun t => t.layers.sp.sh.vmirror && t.layers.fg == timed.layers.fg) = true := by decide

/-- V-L12. -/
theorem test_lcdcEnable_on :
    nextWith (exec (.lcdcEnable .fg true) (timed.putLayer .fg { fgLayer with phase := .configuring }))
      (fun t => t.layers.fg.sh.en && t.layers.fg.phase == .enabled) = true := by decide

/-- V-L10. -/
theorem test_lcdcEnable_no_format :
    nextWith (exec (.lcdcEnable .bg true) shown) (fun t => t.faulted == some .noFormat) = true := by decide

/-- V-L2. -/
theorem test_lcdcReadFormat :
    nextWith (exec (.lcdcReadFormat .fg) shown) (fun t => t.ret == .returned (.word 1#32)) = true := by decide

/-- V-L5. -/
theorem test_lcdcReadFormat_unset :
    nextWith (exec (.lcdcReadFormat .bg) shown) (fun t => t.faulted == some .unsetRead) = true := by decide

/-- V-F1. -/
theorem test_lcdcStart :
    nextWith (exec .lcdcStart shown) (fun t => t.frame.fsm == .armedSoftware && t.frame.valid) = true := by decide

/-- V-F4. -/
theorem test_lcdcStart_scanning :
    nextWith (exec .lcdcStart scanning) (fun t => t.faulted == some .startWhileScanning) = true := by decide

/-- V-F7, from `ArmedSoftware`: the pending trigger is dropped. -/
theorem test_lcdcArmTe :
    nextWith (exec .lcdcArmTe armed) (fun t => t.frame.fsm == .armedHardwareTE && t.frame.arm == .te && !t.frame.valid)
      = true := by decide

/-- V-F17. -/
theorem test_lcdcTeTrigger :
    nextWith (exec .lcdcTeTrigger armedTe) (fun t => t.irq.status == 0x20#32 && t.frame.valid) = true := by decide

/-- Program P4, step 6. -/
theorem test_lcdcErrorClr :
    nextWith (exec .lcdcErrorClr paused)
      (fun t => t.irq == { status := 0x10#32, enable := 0x181#32, fatalMasked := 0#2 } && t.frame.fsm == .idle)
      = true := by decide

/-- V-Q4. -/
theorem test_irqEnable :
    nextWith (exec (.irqEnable 0xFFFFFFFF#32) ready) (fun t => t.irq.enable == 0x1FF#32) = true := by decide

/-- V-Q5. -/
theorem test_irqDisable :
    nextWith (exec .irqDisable paused) (fun t => t.irq.enable == 0#32 && t.irq.fatalMasked == 0#2) = true := by decide

/-- V-F20. -/
theorem test_lcdcReset :
    nextWith (exec .lcdcReset scanning)
      (fun t => t.frame.fsm == .idle && t.link.data == .stop && t.logs.frames.map (fun r => r.outcome) == [.abandoned]
        && t.irq.status == 0#32 && t.layers.fg.phase == .disabled) = true := by decide

/-- R422. -/
theorem test_hostSetCallback :
    nextWith (exec (.hostSetCallback .bg (some 2#16)) ready) (fun t => t.cb.frame == ⟨none, some 2#16, none, none⟩)
      = true := by decide

/-- R423. -/
theorem test_hostSetFaultCallback :
    nextWith (exec (.hostSetFaultCallback (some 3#16)) ready) (fun t => t.cb.fault == some 3#16) = true := by decide

/-- V-Q9. -/
theorem test_irqReadStatus :
    nextWith (exec .irqReadStatus { ready with irq := { ready.irq with status := 0x11#32 } })
      (fun t => t.ret == .returned (.word 0x11#32)) = true := by decide

/-- V-Q10: whatever `IRQ_NUM` is. -/
theorem test_irqNumber : exec .irqNumber ready = .next { ready with ret := .returned (.word Config.irqNum) } := rfl

/-! ## One step of the other agents -/

/-- V-S1, the end of the transmission. -/
theorem test_link_sends :
    nextWith (runChoice .link { sending with link := { sending.link with data := .lpTx } })
      (fun t => t.logs.wire == [.txLp (.short 0x05#6 0x11#8 0x00#8)] && t.irq.status == 0x1000#32 && t.link.job == none)
      = true := by decide

/-- V-U4. -/
theorem test_link_enters_ulps :
    nextWith (runChoice .link { ready with link := { ready.link with clk := .hs, job := some .ulpsEnter, ulps := .entered } })
      (fun t => t.logs.wire == [.clkLp, .ulpsEntry .clock, .ulpsEntry .data] && t.link.data == .ulps) = true := by decide

/-- V-R1: the first poll after the error. -/
theorem test_read_transport :
    nextWith (runChoice .host { reading with irq := { reading.irq with status := 0x400#32 } })
      (fun t => t.ret == .returned (.rx .transport) && t.phase == .ready) = true := by decide

/-- V-R2: not at 1000 µs, and at 1001. -/
theorem test_read_bound :
    nextWith (runChoice .host { reading with now := 1000 }) (fun t => t.phase == reading.phase) = true
      ∧ nextWith (runChoice .host { reading with now := 1001 }) (fun t => t.ret == .returned (.rx .transport)) = true := by
  decide

/-- V-F3. -/
theorem test_frame_begins :
    nextWith (runChoice .scan armed)
      (fun t => t.frame.fsm == .scanning && t.irq.status == 0x10#32 && t.logs.wire == [.txHs 0]
        && t.link.data == .hsFrame) = true := by decide

/-- V-F5. -/
theorem test_frame_ends :
    nextWith (runChoice .scan scanning)
      (fun t => t.irq.status == 0x11#32 && t.layers.fg.cur == .ch1 && t.frame.fsm == .frameDone) = true := by decide

/-- V-F9. -/
theorem test_frame_axi_error :
    nextWith (runChoice (.env .axiError) scanning)
      (fun t => t.irq.status == 0x90#32 && t.layers.fg.cur == .ch0 && t.frame.fsm == .error .axiBus) = true := by decide

/-- V-F16. -/
theorem test_falling_edge_filtered :
    nextWith (runChoice (.env (.teEdge .falling)) armedTe) (fun t => t == armedTe) = true := by decide

/-- V-Q6: the state after the entry step. -/
theorem test_handler_entry :
    nextWith (runChoice .isr { shown with
        irq := { status := 0x000100F3#32, enable := 0x1FF#32, fatalMasked := 0#2 }
        cb := { shown.cb with frame := ⟨some 1#16, none, none, none⟩ }
        prog := { shown.prog with frameOps := [{ id := 1#16, layer := .fg, ch := .ch1, ops := [.lcdcStart] }] } })
      (fun t => t.irq == { status := 0x00010080#32, enable := 0x17F#32, fatalMasked := 1#2 }
        && t.isr == { active := true, work := [.op .lcdcStart, .defaultStart] }
        && t.logs.diag == [.fatalError .axiBus, .lostFrame] && t.logs.events == [.frameDoneCb .fg .ch1]) = true := by
  decide

/-- R139: a byte written is read back. -/
theorem test_producer_write :
    nextWith (runChoice (.pixelWrite 0x20100004#32 0x7F#8) shown) (fun t => t.mem.read 0x20100004 == some 0x7F#8)
      = true := by decide

/-- V-F3 while the producer writes into its region: the frame is raced for the layer. -/
theorem test_producer_races :
    nextWith (runChoice (.pixelWrite 0x20100004#32 0x7F#8) scanning)
      (fun t => t.frame.scan.map (fun sc => sc.raced) == some ⟨true, false, false, false⟩) = true := by decide

/-- R144, R406: a frame that scans WB leaves the bytes of its region unknown, from its begin and to its end, however it
ends (log entry 14). -/
theorem test_writeback_region_unknown :
    nextWith (runChoice .scan armedWb) wbUnknown = true ∧ nextWith (runChoice .scan scanningWb) wbUnknown = true
      ∧ nextWith (runChoice (.env .axiError) scanningWb) wbUnknown = true
      ∧ nextWith (runChoice (.env .errIrq) scanningWb) wbUnknown = true
      ∧ nextWith (exec .lcdcReset scanningWb) wbUnknown = true := by decide

/-- R144: a byte the producer writes while WB may write it is not known, and its neighbour past the region is. -/
theorem test_producer_writeback :
    nextWith (runChoice (.pixelWrite 0x20364A47#32 0x7F#8) scanningWb) (fun t => t.mem.read 0x20364A47 == none) = true
      ∧ nextWith (runChoice (.pixelWrite 0x20364A48#32 0x7F#8) scanningWb)
        (fun t => t.mem.read 0x20364A48 == some 0x7F#8) = true := by decide

/-- Log entry 27: the region is that of frame begin, even once the scanned channel holds another address. -/
theorem test_writeback_rewritten :
    nextWith (exec (.lcdcWriteAddr .wb .ch0 0x20364A48#32) scanningWb)
      (fun t => nextWith (runChoice .scan t) wbUnknown) = true := by decide

/-- R132: a register access that is not one aligned word. -/
theorem test_raw_access_width :
    runChoice (.rawAccess 0x100#32 2) State.reset = .refused .mmioWidth
      ∧ runChoice (.rawAccess 0x102#32 4) State.reset = .refused .mmioWidth := ⟨rfl, rfl⟩

/-! ## The open parameters the tests name -/

/-- R20, R352: an address inside the window of `ready`, its ends, a misaligned one inside it (V-L8), and addresses outside
every window (V-L9, V-L9a). -/
theorem test_validFb :
    validFb ready.windows 0x20100000#32 = true ∧ validFb ready.windows 0x20000000#32 = true
      ∧ validFb ready.windows 0x20FFFFFC#32 = true ∧ validFb ready.windows 0x20100002#32 = false
      ∧ displayMem ready.windows 0x20100002#32 = true ∧ displayMem ready.windows 0x00000000#32 = false
      ∧ displayMem ready.windows 0x00000002#32 = false ∧ displayMem ready.windows 0x1FFFFFFF#32 = false
      ∧ displayMem ready.windows 0x21000000#32 = false := by decide

/-- The tag of RGB565 as an operand. -/
def rgb565 : BitVec 16 := BitVec.ofNat 16 Config.tagRgb565.val

theorem rgb565_toNat : rgb565.toNat = Config.tagRgb565.val := by
  have h := Config.tagRgb565.isLt
  rw [rgb565, BitVec.toNat_ofNat]
  omega

/-- R178: RGB565 is supported on the Foreground layer. -/
theorem rgb565_supported : rgb565.toNat < 67 ∧ Config.formatCode .fg rgb565.toNat = some Config.codeRgb565Fg := by
  rw [rgb565_toNat]
  exact ⟨Config.tagRgb565.isLt, by simp [Config.formatCode]⟩

/-- V-L1. -/
theorem test_lcdcSetFormat_rgb565 :
    nextWith (exec (.lcdcSetFormat .fg rgb565) timed)
      (fun t => t.layers.fg.sh.fmt == some Config.codeRgb565Fg && t.layers.fg.phase == .configuring) = true := by
  have h : formatOperand .fg rgb565 = some Config.codeRgb565Fg := by
    unfold formatOperand
    rw [if_pos (show rgb565.toNat < Config.nTags from rgb565_supported.1)]
    exact rgb565_supported.2
  simp [exec, execLcdcSetFormat, setFormat, h, nextWith, State.writeShadow, State.putLayer, PerLayer.set, PerLayer.get,
    State.finish, LayerState.touch]
  exact ⟨rfl, rfl⟩

/-- R350. -/
theorem test_lcdcWriteAddr :
    nextWith (exec (.lcdcWriteAddr .fg .ch0 0x20300000#32) scanning)
      (fun t => t.layers.fg.addr0 == some 0x20300000#32
        && t.frame.scan.map (fun sc => sc.corrupt) == some ⟨true, false, false, false⟩) = true := by decide

/-- V-L8, V-L9, V-L9a: the window is checked before the alignment. -/
theorem test_lcdcWriteAddr_faults :
    nextWith (exec (.lcdcWriteAddr .fg .ch0 0x20100002#32) timed) (fun t => t.faulted == some .misalignedAddress) = true
      ∧ nextWith (exec (.lcdcWriteAddr .fg .ch0 0x00000000#32) timed) (fun t => t.faulted == some .invalidAddress) = true
      ∧ nextWith (exec (.lcdcWriteAddr .fg .ch0 0x00000002#32) timed) (fun t => t.faulted == some .invalidAddress) = true := by
  decide

/-! ## Witnesses: the hypotheses of each statement are met together -/

/-- DecodeEncodeRoundTrip, with no parameter and with five. -/
theorem witness_DecodeEncodeRoundTrip :
    (Instr.dsiSend 0x11#8 []).wellFormed = true
      ∧ (Instr.dsiSend 0x2A#8 [0#8, 0#8, 1#8, 0x3F#8, 0#8]).wellFormed = true := by decide

/-- DecodedWordsReencode. -/
theorem witness_DecodedWordsReencode :
    decode [0x00000034#32, 0x181#32, 0x30#32] = .ok (.irqEnable 0x181#32, [0x30#32])
      ∧ (∀ cmd params, Instr.irqEnable 0x181#32 ≠ .dsiSend cmd params)
      ∧ decode [0x00350002#32, 1#32, 0#32] = .ok (.dsiSend 0x35#8 [0#8], []) :=
  ⟨rfl, fun _ _ h => Instr.noConfusion h, rfl⟩

/-- ReservedWordsRefused, first clause: both ends of each range of reserved opcodes. -/
theorem witness_ReservedWordsRefused_opcodes :
    ∀ b ∈ [0x00#8, 0x0D#8, 0x0F#8, 0x12#8, 0x1F#8, 0x2A#8, 0x2F#8, 0x3B#8, 0xFF#8],
      (b.setWidth 32).extractLsb' 0 8 = b
        ∧ (b.toNat = 0 ∨ (0x0D ≤ b.toNat ∧ b.toNat ≤ 0x0F) ∨ (0x12 ≤ b.toNat ∧ b.toNat ≤ 0x1F)
          ∨ (0x2A ≤ b.toNat ∧ b.toNat ≤ 0x2F) ∨ 0x3B ≤ b.toNat) := by decide

/-- ReservedWordsRefused, second and third clauses. -/
theorem witness_ReservedWordsRefused_fields :
    ((0x00000130#32).extractLsb' 0 8 = 0x30#8 ∧ 0x00000130#32 &&& 0xFFFFFF00#32 ≠ 0#32)
      ∧ ((0x00010037#32).extractLsb' 0 8 = 0x37#8 ∧ (0x00010037#32).getLsbD 11 = false
        ∧ (0x00010037#32).extractLsb' 16 16 ≠ 0#16)
      ∧ (0x80000038#32).extractLsb' 0 8 = 0x38#8 ∧ (0x80000038#32).getLsbD 11 = false
        ∧ (0x80000038#32).extractLsb' 16 16 ≠ 0#16 := by decide

/-- A ready machine whose program is some words. -/
def program (s : State) (ws : List Word) : State := { s with prog := { s.prog with words := ws } }

/-- DecodedInstructionRuns: with the HOST named by the schedule, and with an empty schedule; the second operation holds. -/
theorem witness_DecodedInstructionRuns :
    ({ program ready [0x30#32] with sched := [.host, .link] } : State).hostsTurn
      ∧ decode [0x30#32] = .ok (.lcdcStart, [])
      ∧ (program sending [0x0B#32]).hostsTurn ∧ decode [0x0B#32] = .ok (.dsiSleep, [])
      ∧ nextWith (exec .dsiSleep (program sending [0x0B#32])) (fun t => t.ret == .held) = true :=
  ⟨⟨rfl, .inr ⟨_, rfl⟩, rfl, rfl⟩, rfl, ⟨rfl, .inl rfl, rfl, rfl⟩, rfl, rfl⟩

/-- RefusedWordStopsRun, for both reasons. -/
theorem witness_RefusedWordStopsRun :
    (program ready [0x0D#32]).hostsTurn ∧ [0x0D#32] ≠ [] ∧ decode [0x0D#32] = .error .illegalCommand
      ∧ (program ready [0x34#32]).hostsTurn ∧ [0x34#32] ≠ [] ∧ decode [0x34#32] = .error .truncated :=
  ⟨⟨rfl, .inl rfl, rfl, rfl⟩, by decide, rfl, ⟨rfl, .inl rfl, rfl, rfl⟩, by decide, rfl⟩

/-- RefusedWordStopsRun: the raw accesses, one aligned word and two that are not. -/
theorem witness_RefusedWordStopsRun_raw :
    ready.faulted = none ∧ ({ ready with sched := [.rawAccess 0x100#32 4] } : State).sched = .rawAccess 0x100#32 4 :: []
      ∧ (4 = 4 ∧ (0x100#32).toNat % 4 = 0) ∧ ¬ (2 = 4 ∧ (0x100#32).toNat % 4 = 0)
      ∧ ¬ (4 = 4 ∧ (0x102#32).toNat % 4 = 0) := by decide

/-- FaultedStateStops. -/
theorem witness_FaultedStateStops : (State.reset.raise .unsetRead).faulted = some .unsetRead := rfl

/-- R234. -/
theorem fits_of_length (dt : BitVec 6) (pl : List Byte) (h : pl.length < 2 ^ 16) : (Packet.long dt pl).fits = true := by
  simpa [Packet.fits] using h

/-- PacketWireRoundTrip: a short packet, an empty long one, and the longest. -/
theorem witness_PacketWireRoundTrip :
    (Packet.short 0x15#6 0x35#8 0#8).fits = true ∧ isLongType .forward 0x15#6 = false
      ∧ (Packet.long 0x39#6 []).fits = true ∧ (Packet.long 0x39#6 (List.replicate (2 ^ 16 - 1) 0#8)).fits = true
      ∧ isLongType .forward 0x39#6 = true := by
  refine ⟨rfl, by decide, rfl, ?_, by decide⟩
  exact fits_of_length _ _ (by rw [List.length_replicate]; decide)

/-- DsiInitProgramsLink: both lane counts, the divisors 0 and 31. -/
theorem witness_DsiInitProgramsLink :
    ready.link.job = none ∧ ready.dsi.power = .on ∧ ready.frame.fsm ≠ .scanning
      ∧ (1#4 = 1#4 ∧ LaneCount.one = .one) ∧ (2#4 = 2#4 ∧ LaneCount.two = .two)
      ∧ 10#32 ≠ 0#32 ∧ (310#32).toNat / (10#32).toNat ≤ 31 ∧ (9#32).toNat / (10#32).toNat ≤ 31 := by decide

/-- DsiInitOtherwise: each clause; the lane counts beside 1 and 2, and the divisor 32. -/
theorem witness_DsiInitOtherwise :
    sending.link.job ≠ none ∧ (gated.link.job = none ∧ gated.dsi.power = .off)
      ∧ (scanning.link.job = none ∧ scanning.dsi.power = .on ∧ scanning.frame.fsm = .scanning)
      ∧ (ready.link.job = none ∧ ready.dsi.power = .on ∧ ready.frame.fsm ≠ .scanning)
      ∧ (0#4 ≠ 1#4 ∧ 0#4 ≠ 2#4) ∧ (3#4 ≠ 1#4 ∧ 3#4 ≠ 2#4) ∧ 31 < (320#32).toNat / (10#32).toNat := by decide

/-- Command traffic is accepted: DsiSendQueuesPacket, and DsiReadIssuesRequest outside the handler. -/
theorem witness_commandReady : ready.commandReady ∧ ready.isr.active = false :=
  ⟨⟨⟨rfl, rfl, rfl⟩, rfl, rfl, rfl⟩, rfl⟩

/-- CommandTrafficChecks: a machine that is not configured, and one whose lanes are busy; both operations. -/
theorem witness_CommandTrafficChecks :
    ¬ State.reset.commandReady ∧ ¬ sending.commandReady
      ∧ (∃ cmd params, Instr.dsiSend 0x11#8 [] = .dsiSend cmd params)
      ∧ (∃ cmd len, Instr.dsiRead 0x0A#8 1#8 = .dsiRead cmd len) ∧ sending.isr.active = false :=
  ⟨fun h => Bool.noConfusion h.1.1, fun h => Option.noConfusion rfl (heq_of_eq h.2.2.1), ⟨_, _, rfl⟩, ⟨_, _, rfl⟩, rfl⟩

/-- BlockingFaultsInHandler. -/
theorem witness_BlockingFaultsInHandler :
    (inHandler ready).isr.active = true ∧ ∃ cmd len, Instr.dsiRead 0x0A#8 1#8 = .dsiRead cmd len :=
  ⟨rfl, _, _, rfl⟩

/-- UlpsOperationsIssue, clause by clause. -/
theorem witness_UlpsOperationsIssue :
    (ready.isr.active = false ∧ ready.link.ulps = .exited ∧ ready.dsiReady ∧ ready.lanesIdle)
      ∧ (asleepLanes.isr.active = false ∧ asleepLanes.link.ulps = .entered ∧ asleepLanes.dsiReady
        ∧ asleepLanes.link.job = none) :=
  ⟨⟨rfl, rfl, ⟨rfl, rfl, rfl⟩, rfl, rfl⟩, rfl, rfl, ⟨rfl, rfl, rfl⟩, rfl⟩

/-- UlpsOperationsWait: entry with the lanes busy, exit with a job pending. -/
theorem witness_UlpsOperationsWait :
    (sending.isr.active = false ∧ sending.link.ulps = .exited ∧ ¬ (sending.dsiReady ∧ sending.lanesIdle))
      ∧ (let s : State := { asleepLanes with link := { asleepLanes.link with job := some .ulpsEnter } }
        s.isr.active = false ∧ s.link.ulps = .entered ∧ ¬ (s.dsiReady ∧ s.link.job = none)) :=
  ⟨⟨rfl, rfl, fun h => Option.noConfusion rfl (heq_of_eq h.2.1)⟩, rfl, rfl, fun h => Option.noConfusion rfl (heq_of_eq h.2)⟩

/-- UlpsWaitsEnd, both clauses. -/
theorem witness_UlpsWaitsEnd :
    ({ ready with phase := .ulpsEntering 7 } : State).isr.active = false
      ∧ ({ ready with phase := .ulpsEntering 7 } : State).phase = .ulpsEntering 7
      ∧ ({ ready with phase := .ulpsExiting 7 } : State).phase = .ulpsExiting 7 := ⟨rfl, rfl, rfl⟩

/-- PanelResponds, both clauses. -/
theorem witness_PanelResponds : ready.link.data ≠ .bta ∧ reading.link.data = .bta := by decide

/-- ReadPollFollowsRule. -/
theorem witness_ReadPollFollowsRule :
    reading.isr.active = false ∧ reading.phase = .reading 0x0A#8 1#8 0 [] .poll := by decide

/-- A read whose response has been taken. -/
def draining : State := { reading with phase := .reading 0x0A#8 1#8 0 [0x21#8, 0x9C#8, 0x00#8, 0x1E#8] .drain }

/-- ReadDrainFinishes. -/
theorem witness_ReadDrainFinishes :
    draining.isr.active = false
      ∧ draining.phase = .reading 0x0A#8 1#8 0 [0x21#8, 0x9C#8, 0x00#8, 0x1E#8] .drain := by decide

/-- DemuxClassifies: a short buffer, and a good response. -/
theorem witness_DemuxClassifies :
    [0x21#8, 0x9C#8].length < 4 ∧ demux [0x21#8, 0x9C#8, 0x00#8, 0x1E#8] 1 = .ok [0x9C#8] := by decide

/-- ReadReturnsOnceBoundPassed. -/
theorem witness_ReadReturnsOnceBoundPassed :
    (let s : State := { reading with now := 1001 }
     s.faulted = none ∧ s.sched = [] ∧ s.isr.active = false ∧ s.phase = .reading 0x0A#8 1#8 0 [] .poll
       ∧ 1000 < s.now - 0) := by decide

/-- SetTimingWritesCounts. -/
theorem witness_SetTimingWritesCounts :
    ready.dsi.configured = true ∧ ready.frame.fsm ≠ .scanning ∧ ready.dsi.mode = some .video := by decide

/-- TimingOperationsFault, both clauses. -/
theorem witness_TimingOperationsFault :
    State.reset.dsi.configured = false
      ∧ (scanning.dsi.configured = true ∧ scanning.dsi.mode ≠ none ∧ scanning.frame.fsm = .scanning) := by decide

/-- SetFormatAndReadback, clause by clause; the first and the last unsupported tag. -/
theorem witness_SetFormatAndReadback :
    (rgb565.toNat < 67 ∧ Config.formatCode .fg rgb565.toNat = some Config.codeRgb565Fg)
      ∧ 67 ≤ (67#16).toNat ∧ 67 ≤ (65535#16).toNat
      ∧ (shown.layers.get .fg).sh.fmt = some 1#5 ∧ (shown.layers.get .bg).sh.fmt = none :=
  ⟨rgb565_supported, by decide, by decide, rfl, rfl⟩

/-- ShadowWrites: the first clause, for a blend write of FG. -/
theorem witness_ShadowWrites :
    (shown.layers.get .fg).sh = fgLayer.sh
      ∧ ∃ mode alpha, Instr.lcdcSetBlend .fg .pixelAlpha 0x10#8 = .lcdcSetBlend .fg mode alpha ∧ (Layer.fg = .fg ∨ Layer.fg = .bg)
        ∧ ({ fgLayer.sh with blend := .pixelAlpha, alpha := 0x10#8 } : LayerCfg)
          = { fgLayer.sh with blend := mode, alpha := alpha } :=
  ⟨rfl, .pixelAlpha, 0x10#8, rfl, .inl rfl, rfl⟩

/-- ShadowWrites: the second clause. -/
theorem witness_ShadowWrites_none : (Layer.wb = .wb ∨ Layer.wb = .sp) ∧ (Layer.sp = .wb ∨ Layer.sp = .sp) := by decide

/-- WriteAddrInstalls, clause by clause. -/
theorem witness_WriteAddrInstalls :
    (validAddress ready.windows 0x20000000#32 ∧ validAddress ready.windows 0x20FFFFFC#32)
      ∧ (displayMem ready.windows 0x1FFFFFFF#32 = false ∧ displayMem ready.windows 0x21000000#32 = false)
      ∧ (displayMem ready.windows 0x20FFFFFF#32 = true ∧ (0x20FFFFFF#32).toNat % 4 ≠ 0) := by
  unfold validAddress; decide

/-- LayerEnableAndDisable, clause by clause. -/
theorem witness_LayerEnableAndDisable :
    (shown.tim.set = true ∧ (shown.layers.get .fg).sh.fmt ≠ none) ∧ ready.tim.set = false
      ∧ (shown.tim.set = true ∧ (shown.layers.get .bg).sh.fmt = none) := by decide

/-- LayerIndependence: an operation that does change its layer. -/
theorem witness_LayerIndependence :
    ∃ t, exec (.lcdcSetCkeyAlpha .bg 0x40#8) timed = .next t ∧ Instr.lcdcSetCkeyAlpha .bg 0x40#8 ≠ .lcdcReset
      ∧ t.layers.get .bg ≠ timed.layers.get .bg :=
  ⟨_, rfl, fun h => Instr.noConfusion h, by decide⟩

/-- LayerStateTransitions: a layer leaves `Enabled`, a layer reaches it, a layer leaves `Configuring`, and another
agent's step. -/
theorem witness_LayerStateTransitions :
    (∃ t, exec (.lcdcEnable .fg false) shown = .next t ∧ (shown.layers.get .fg).phase = .enabled
        ∧ (t.layers.get .fg).phase ≠ .enabled)
      ∧ (let s := timed.putLayer .fg { fgLayer with phase := .configuring }
        (∃ t, exec (.lcdcEnable .fg true) s = .next t ∧ (s.layers.get .fg).phase ≠ .enabled
          ∧ (t.layers.get .fg).phase = .enabled)
        ∧ ∃ t, exec (.lcdcEnable .fg false) s = .next t ∧ (s.layers.get .fg).phase = .configuring
          ∧ (t.layers.get .fg).phase = .disabled)
      ∧ ∃ t, runChoice .timer shown = .next t :=
  ⟨⟨_, rfl, by decide, by decide⟩, ⟨⟨_, rfl, by decide, by decide⟩, _, rfl, by decide, by decide⟩, _, rfl⟩

/-- FrameBeginsScan, armed in software. -/
theorem witness_FrameBeginsScan :
    armed.frame.valid = true ∧ armed.frame.fsm = .armedSoftware ∧ armed.lanesIdle ∧ armed.dsiReady
      ∧ armed.link.ulps = .exited ∧ armed.tim.set = true ∧ armed.dsi.mode = some .video
      ∧ ∀ l, (armed.layers.get l).sh.en = true → (armed.layers.get l).addr (armed.layers.get l).cur ≠ none := by
  refine ⟨rfl, rfl, ⟨rfl, rfl⟩, ⟨rfl, rfl, rfl⟩, rfl, rfl, rfl, ?_⟩
  intro l
  cases l <;> decide

/-- FrameBeginsScan, with WB the scanned layer: its hypotheses, and the region of the frame that begins. -/
theorem witness_FrameBeginsScan_writeback :
    armedWb.frame.valid = true ∧ armedWb.frame.fsm = .armedSoftware ∧ armedWb.lanesIdle ∧ armedWb.dsiReady
      ∧ armedWb.link.ulps = .exited ∧ armedWb.tim.set = true ∧ armedWb.dsi.mode = some .video
      ∧ (∀ l, (armedWb.layers.get l).sh.en = true → (armedWb.layers.get l).addr (armedWb.layers.get l).cur ≠ none)
      ∧ nextWith (runChoice .scan armedWb) (fun t => t.frame.scan.any (fun sc => t.scans sc .wb 0x20300000)) = true := by
  refine ⟨rfl, rfl, ⟨rfl, rfl⟩, ⟨rfl, rfl, rfl⟩, rfl, rfl, rfl, ?_, by decide⟩
  intro l
  cases l <;> decide

/-- FrameBeginWaitsOrFaults: the states in which no frame begins, with the trigger pending (as in no run) and without. -/
theorem witness_FrameBeginWaitsOrFaults_idle :
    ready.frame.fsm = .idle ∧ (∃ t, runChoice .scan scanning = .next t ∧ t.frame.fsm = .frameDone)
      ∧ (∃ k, paused.frame.fsm = .error k)
      ∧ ({ paused with frame := { paused.frame with valid := true } } : State).frame.fsm = .error .axiBus :=
  ⟨rfl, ⟨_, rfl, by decide⟩, ⟨_, rfl⟩, rfl⟩

/-- FrameBeginWaitsOrFaults: no trigger, and the clauses of a triggered frame. -/
theorem witness_FrameBeginWaitsOrFaults :
    (armedTe.frame.fsm ≠ .scanning ∧ armedTe.frame.valid = false)
      ∧ (armed.frame.fsm = .armedSoftware ∧ armed.frame.valid = true)
      ∧ ¬ ({ armed with link := sending.link } : State).lanesIdle
      ∧ (let s : State := { armed with dsi := State.reset.dsi }
        s.lanesIdle ∧ s.dsi.configured = false)
      ∧ (let s : State := { armed with dsi := gated.dsi }
        s.lanesIdle ∧ s.dsi.configured = true ∧ ¬ (s.dsiReady ∧ s.link.ulps = .exited))
      ∧ (let s : State := { armed with tim := Tim.afterReset }
        s.lanesIdle ∧ s.dsiReady ∧ s.link.ulps = .exited ∧ s.tim.set = false)
      ∧ (let s : State := armed.putLayer .fg { fgLayer with addr0 := none }
        s.lanesIdle ∧ s.dsiReady ∧ s.link.ulps = .exited ∧ s.tim.set = true ∧ s.dsi.mode ≠ none
          ∧ ∃ l, (s.layers.get l).sh.en = true ∧ (s.layers.get l).addr (s.layers.get l).cur = none) :=
  ⟨⟨by decide, rfl⟩, ⟨rfl, rfl⟩, fun h => Option.noConfusion rfl (heq_of_eq h.1), ⟨⟨rfl, rfl⟩, rfl⟩,
    ⟨⟨rfl, rfl⟩, rfl, fun h => Power.noConfusion h.1.2.1⟩, ⟨⟨rfl, rfl⟩, ⟨rfl, rfl, rfl⟩, rfl, rfl⟩,
    ⟨rfl, rfl⟩, ⟨rfl, rfl, rfl⟩, rfl, rfl, by decide, .fg, rfl, rfl⟩

/-- FrameEndReports, and the aborting clause of FrameErrorsFromEnvironment; with FG scanned, and with WB. -/
theorem witness_frame_in_flight :
    (scanning.frame.fsm = .scanning ∧ scanning.frame.scan = some fgScan)
      ∧ (scanningWb.frame.fsm = .scanning ∧ scanningWb.frame.scan = some wbScan)
      ∧ scanningWb.scans wbScan .wb 0x20300000 = true ∧ scanningWb.scans wbScan .wb 0x20364A48 = false := by decide

/-- FrameErrorsFromEnvironment: the clauses outside a frame. -/
theorem witness_FrameErrorsFromEnvironment : shown.frame.fsm ≠ .scanning ∧ paused.frame.fsm ≠ .scanning := by decide

/-- PanelResetClears, and ProducerWriteRaces: with no frame in flight, and with one that scans FG, or WB. -/
theorem witness_PanelResetClears :
    shown.frame.scan = none ∧ scanning.frame.scan = some fgScan ∧ scanningWb.frame.scan = some wbScan
      ∧ scanningWb.scans wbScan .wb (0x20364A47#32).toNat = true := by decide

/-- FrameMachineTransitions: one of the four operations, and another. -/
theorem witness_FrameMachineTransitions :
    (∃ t, exec .lcdcStart shown = .next t ∧ t.frame.fsm ≠ shown.frame.fsm) ∧ ∃ t, exec .irqDisable armed = .next t :=
  ⟨⟨_, rfl, by decide⟩, _, rfl⟩

/-- FatalStaysUntilAcknowledged, first clause: a step inside a read, and the handler's return. -/
theorem witness_FatalStaysUntilAcknowledged_step :
    (let s : State := { reading with irq := { reading.irq with status := 0x80#32 }, sched := [.host] }
     s.irq.status.getLsbD 7 = true ∧ ¬ s.performs .lcdcErrorClr ∧ ¬ s.performs .lcdcReset ∧ ∃ t, step s = .next t)
      ∧ (let s : State := { inHandler paused with sched := [.isr] }
        s.irq.status.getLsbD 7 = true ∧ ¬ s.performs .lcdcErrorClr ∧ ¬ s.performs .lcdcReset ∧ ∃ t, step s = .next t) := by
  have waits : ∀ i, ¬ ({ reading with irq := { reading.irq with status := 0x80#32 }, sched := [.host] } : State).performs i := by
    rintro i (⟨_, _, h, _⟩ | ⟨h, _⟩)
    · exact HostPhase.noConfusion h
    · exact Choice.noConfusion h
  have returns : ∀ i, ¬ ({ inHandler paused with sched := [.isr] } : State).performs i := by
    rintro i (⟨h, _⟩ | ⟨_, _, a, rest, h, _⟩)
    · exact Choice.noConfusion h
    · exact absurd (show ([] : List Action) = a :: rest from h) (by simp)
  exact ⟨⟨by decide, waits _, waits _, _, rfl⟩, by decide, returns _, returns _, _, rfl⟩

/-- FatalStaysUntilAcknowledged: bit 7, with an operation and with another agent's step; and bit 8. -/
theorem witness_FatalStaysUntilAcknowledged :
    paused.irq.status.getLsbD 7 = true
      ∧ (∃ t, exec (.dsiClearError 0xFFFFFFFF#32) paused = .next t) ∧ (∃ t, runChoice .link paused = .next t)
      ∧ ({ ready with irq := { ready.irq with status := 0x100#32 } } : State).irq.status.getLsbD 8 = true :=
  ⟨by decide, ⟨_, rfl⟩, ⟨_, rfl⟩, by decide⟩

/-- HandlerEntryStatus and HandlerEntryQueues: the lowest and the highest cause that assert the line. -/
theorem witness_handler_entry :
    (let s : State := { ready with irq := { status := 0x001#32, enable := 0x001#32, fatalMasked := 0#2 } }
     s.isr.active = false ∧ s.irq.status.getLsbD 0 = true ∧ s.irq.enable.getLsbD 0 = true)
      ∧ (let s : State := { ready with irq := { status := 0x100#32, enable := 0x1FF#32, fatalMasked := 0#2 } }
        s.isr.active = false ∧ s.irq.status.getLsbD 8 = true ∧ s.irq.enable.getLsbD 8 = true) := by decide

/-- HandlerRunsWork, clause by clause. -/
theorem witness_HandlerRunsWork :
    (inHandler ready).isr.active = true ∧ (inHandler ready).isr.work = []
      ∧ ({ ready with isr := { active := true, work := [.defaultStart] } } : State).isr.work = .defaultStart :: []
      ∧ ready.isr.active = false ∧ ready.irq.status &&& ready.irq.enable &&& 0x1FF#32 = 0#32 := by decide

/-- OnlyTimerAdvancesTime: a step that is not the timer's. -/
theorem witness_OnlyTimerAdvancesTime :
    ∃ t, step { sending with sched := [.link] } = .next t ∧ nextChoice { sending with sched := [.link] } ≠ .timer :=
  ⟨_, rfl, by decide⟩

/-- StepKeepsValidAddresses: a layer that holds two valid addresses, and a step. -/
theorem witness_StepKeepsValidAddresses : shown.AddressInv ∧ ∃ t, step shown = .next t := by
  have h0 : validAddress shown.windows 0x20100000#32 := ⟨by decide, by decide⟩
  have h1 : validAddress shown.windows 0x20200000#32 := ⟨by decide, by decide⟩
  refine ⟨⟨?_, fun sc l e h => Option.noConfusion rfl (heq_of_eq h)⟩, _, rfl⟩
  intro l c a h
  cases l <;> cases c
  case fg.ch0 => exact Option.some.inj h ▸ h0
  case fg.ch1 => exact Option.some.inj h ▸ h1
  all_goals exact Option.noConfusion rfl (heq_of_eq h)

/-- StepKeepsMemoryCanonical: a memory with two known bytes, and a pixel written between them. -/
theorem witness_StepKeepsMemoryCanonical :
    (let s : State := { ready with mem := [(4, 1#8), (9, 2#8)], sched := [.pixelWrite 7#32 3#8] }
     Memory.wf s.mem ∧ nextWith (step s) (fun t => t.mem == [(4, 1#8), (7, 3#8), (9, 2#8)]) = true) := by decide

/-- StepKeepsFrameMachine: a frame in flight, and its end. -/
theorem witness_StepKeepsFrameMachine :
    (let s : State := { scanning with logs := { scanning.logs with wire := [.txHs 0] }, sched := [.scan] }
     s.FsmInv ∧ s.FrameLogInv ∧ ∃ t, step s = .next t) := by
  refine ⟨⟨by decide, by decide, by decide, by decide, by decide, by decide⟩, ⟨by decide, by decide, ?_⟩, _, rfl⟩
  intro sc h
  have h' : some fgScan = some sc := h
  rw [← Option.some.inj h']
  rfl

/-- StepKeepsLink and PendingJobProgresses (first clause): a write being sent, and the LINK agent's step. -/
theorem witness_StepKeepsLink :
    (let s : State := { sending with sched := [.link] }
     s.FsmInv ∧ s.LinkInv ∧ s.link.job ≠ none ∧ s.link.data ≠ .bta ∧ ∃ t, step s = .next t) := by
  refine ⟨⟨by decide, by decide, by decide, by decide, by decide, by decide⟩,
    ⟨by decide, by decide, by decide, Nat.zero_le _, Nat.zero_le _⟩, by decide, by decide, _, rfl⟩

/-- PendingJobProgresses, second clause: a read whose response has not ended. -/
theorem witness_PendingJobProgresses_turnaround :
    reading.LinkInv ∧ reading.link.job ≠ none ∧ reading.link.data = .bta :=
  ⟨⟨by decide, by decide, by decide, Nat.zero_le _, Nat.zero_le _⟩, by decide, rfl⟩

/-! ### A fair run

The schedule below names the five agents in turn, for ever. -/

def inTurn (n : Nat) : Choice :=
  match n % 5 with
  | 0 => .link
  | 1 => .host
  | 2 => .isr
  | 3 => .scan
  | _ => .timer

/-- A write waiting to be sent, being sent, and sent, `k` ticks after power-on. -/
def writeStage (stage : Fin 3) (k : Nat) : State :=
  match stage with
  | 0 => { sending with now := k }
  | 1 => { sending with link := { sending.link with data := .lpTx }, now := k }
  | 2 =>
    { ready with
      irq := { ready.irq with status := 0x00001000#32 }
      logs := { ready.logs with wire := [.txLp (.short 0x05#6 0x11#8 0x00#8)] }, now := k }

theorem step_writeStage (stage : Fin 3) (k n : Nat) :
    ∃ stage' k', step ((writeStage stage k).choose (inTurn n)) = .next (writeStage stage' k') := by
  unfold inTurn
  match stage with
  | 0 =>
    split
    exacts [⟨1, k, rfl⟩, ⟨0, k, rfl⟩, ⟨0, k, by with_unfolding_all rfl⟩, ⟨0, k, rfl⟩, ⟨0, k + 1, rfl⟩]
  | 1 =>
    split
    exacts [⟨2, k, by with_unfolding_all rfl⟩, ⟨1, k, rfl⟩, ⟨1, k, by with_unfolding_all rfl⟩, ⟨1, k, rfl⟩,
      ⟨1, k + 1, rfl⟩]
  | 2 =>
    split
    exacts [⟨2, k, rfl⟩, ⟨2, k, rfl⟩, ⟨2, k, by with_unfolding_all rfl⟩, ⟨2, k, rfl⟩, ⟨2, k + 1, rfl⟩]

theorem follow_sending (n : Nat) : ∃ stage k, sending.follow inTurn n = .next (writeStage stage k) := by
  induction n with
  | zero => exact ⟨0, 0, rfl⟩
  | succ n ih =>
    obtain ⟨stage, k, h⟩ := ih
    obtain ⟨stage', k', h'⟩ := step_writeStage stage k n
    refine ⟨stage', k', ?_⟩
    rw [State.follow_succ, h]
    exact h'

/-- R475: naming each agent in turn is fair, and the bus is never turned around. -/
theorem sending_fair : sending.fair inTurn := by
  refine ⟨fun c hc n _ => ?_, fun n t ht hb => ?_⟩
  · have at' : ∀ r, r < 5 → inTurn (5 * n + r) = inTurn r := by
      intro r hr
      unfold inTurn
      rw [Nat.mul_add_mod]
    rcases hc with rfl | rfl | rfl | rfl | rfl
    exacts [⟨5 * n + 1, by omega, at' 1 (by omega)⟩, ⟨5 * n + 2, by omega, at' 2 (by omega)⟩,
      ⟨5 * n + 0, by omega, at' 0 (by omega)⟩, ⟨5 * n + 3, by omega, at' 3 (by omega)⟩,
      ⟨5 * n + 4, by omega, at' 4 (by omega)⟩]
  · obtain ⟨stage, k, h⟩ := follow_sending n
    rw [h] at ht
    cases ht
    match stage, hb with
    | 0, hb => exact DataLane.noConfusion hb
    | 1, hb => exact DataLane.noConfusion hb
    | 2, hb => exact DataLane.noConfusion hb

/-- FairRunsEndJobs: a pending write, and a fair schedule. -/
theorem witness_FairRunsEndJobs :
    sending.FsmInv ∧ sending.FrameLogInv ∧ sending.LinkInv ∧ sending.fair inTurn ∧ sending.link.job ≠ none :=
  ⟨⟨by decide, by decide, by decide, by decide, by decide, by decide⟩,
    ⟨by decide, by decide, fun _ h => Option.noConfusion rfl (heq_of_eq h)⟩,
    ⟨by decide, by decide, by decide, Nat.zero_le _, Nat.zero_le _⟩, sending_fair, by decide⟩

/-- R480: the run's observation is that of its first final state, after the sixth step, and stays so; before, there is
none. -/
theorem test_observation :
    sending.observation inTurn 5 = none
      ∧ (sending.observation inTurn 8).map (fun o => (o.state.now, o.logs.wire.length)) = some (1, 1) := by decide

/-! ### A program that terminates

`irq.number`, on a machine at rest with every interrupt disabled, whatever the environment and the producer do. -/

/-- At rest, with `irq.number` the program still to run. -/
structure AtRest (s : State) : Prop where
  faulted : s.faulted = none
  isr : s.isr.active = false
  enable : s.irq.enable = 0#32
  phase : s.phase = .ready
  words : s.prog.words = [0x3A#32]
  job : s.link.job = none
  data : s.link.data = .stop
  valid : s.frame.valid = false
  scan : s.frame.scan = none
  fsm : s.frame.fsm = .idle ∨ ∃ k, s.frame.fsm = .error k

theorem atRest_line {s : State} (h : AtRest s) : s.irqLine = false := by simp [State.irqLine, h.enable]

theorem atRest_host {s : State} (h : AtRest s) :
    hostStep s = .next { s with prog := { s.prog with words := [] }, ret := .returned (.word Config.irqNum) } := by
  have hd : decode s.prog.words = .ok (.irqNumber, []) := by rw [h.words]; rfl
  have hp : s.phase = .ready := h.phase
  unfold hostStep
  rw [if_neg (by simp [h.isr]), hp]
  simp only [h.words]
  unfold hostIssue
  rw [hd]
  simp only [← hp]
  rfl

theorem atRest_env {s : State} (h : AtRest s) (e : EnvEvent) : AtRest (envStep e s) := by
  have hb : s.link.data ≠ .bta := by rw [h.data]; exact fun e => DataLane.noConfusion e
  have hs : s.frame.fsm ≠ .scanning := by
    rcases h.fsm with h | ⟨k, h⟩ <;> rw [h] <;> exact fun e => Fsm.noConfusion e
  have ha : s.frame.fsm ≠ .armedHardwareTE := by
    rcases h.fsm with h | ⟨k, h⟩ <;> rw [h] <;> exact fun e => Fsm.noConfusion e
  have cause : ∀ c, AtRest (s.setCause c) := fun _ =>
    ⟨h.faulted, h.isr, h.enable, h.phase, h.words, h.job, h.data, h.valid, h.scan, h.fsm⟩
  cases e <;> simp only [envStep]
  case errIrq =>
    unfold envErrIrq
    simp only [if_neg hs]
    rcases h.fsm with hf | ⟨k, hf⟩ <;> rw [hf]
    · exact ⟨h.faulted, h.isr, h.enable, h.phase, h.words, h.job, h.data, rfl, h.scan, .inr ⟨_, rfl⟩⟩
    · exact cause _
  case teEdge pol =>
    unfold envTeEdge State.tePulse
    rw [if_neg ha]
    split
    · exact cause _
    · exact h
  case underflow => rw [envUnderflow, if_neg hs]; exact h
  case axiError => rw [envAxiError, if_neg hs]; exact h
  case rxByte b => rw [envRxByte, if_neg (fun e => hb e.1)]; exact h
  case rxEnd => rw [envRxEnd, if_neg hb]; exact h
  all_goals (rw [envRxFail, if_neg hb]; exact h)

/-- Every step but the HOST's leaves the machine at rest. -/
theorem atRest_step {s : State} (h : AtRest s) {c : Choice} (hc : c ≠ .host) (hr : ∀ a n, c ≠ .rawAccess a n) :
    ∃ t, step (s.choose c) = .next t ∧ AtRest t := by
  have h' : AtRest (s.choose c).popChoice :=
    ⟨h.faulted, h.isr, h.enable, h.phase, h.words, h.job, h.data, h.valid, h.scan, h.fsm⟩
  rw [step_eq, show (s.choose c).faulted = none from h.faulted, show nextChoice (s.choose c) = c from rfl]
  generalize (s.choose c).popChoice = u at h'
  cases c with
  | host => exact absurd rfl hc
  | isr =>
    refine ⟨u, ?_, h'⟩
    simp [runChoice, isrStep, h'.isr, atRest_line h']
  | link =>
    refine ⟨u, ?_, h'⟩
    simp [runChoice, linkStep, h'.job]
  | scan =>
    refine ⟨u, ?_, h'⟩
    rcases h'.fsm with hf | ⟨k, hf⟩ <;> simp [runChoice, scanStep, hf]
  | timer =>
    exact ⟨_, rfl, h'.faulted, h'.isr, h'.enable, h'.phase, h'.words, h'.job, h'.data, h'.valid, h'.scan, h'.fsm⟩
  | env e => exact ⟨_, rfl, atRest_env h' e⟩
  | pixelWrite a b =>
    refine ⟨_, rfl, ?_⟩
    rw [producerWrite, h'.scan]
    exact ⟨h'.faulted, h'.isr, h'.enable, h'.phase, h'.words, h'.job, h'.data, h'.valid, h'.scan, h'.fsm⟩
  | rawAccess a n => exact absurd rfl (hr a n)

/-- The HOST's step is enabled, and ends the program. -/
theorem atRest_ends {s : State} (h : AtRest s) :
    s.enabled .host ∧ ∃ t, step (s.choose .host) = .next t ∧ t.final = true := by
  constructor
  · intro t ht e
    rw [show runChoice .host s = hostStep s from rfl, atRest_host h] at ht
    cases ht
    have := congrArg (fun u => u.prog.words) e
    simp [h.words] at this
  · have h' : AtRest (s.choose .host).popChoice :=
      ⟨h.faulted, h.isr, h.enable, h.phase, h.words, h.job, h.data, h.valid, h.scan, h.fsm⟩
    rw [step_eq, show (s.choose .host).faulted = none from h.faulted, show nextChoice (s.choose .host) = .host from rfl]
    generalize (s.choose .host).popChoice = u at h'
    refine ⟨_, atRest_host h', ?_⟩
    have line := atRest_line h'
    rcases h'.fsm with hf | ⟨k, hf⟩ <;>
      simp_all [State.final, State.unfaulted, State.irqLine, h'.phase, h'.isr, h'.job, h'.data, h'.valid, h'.faulted]

/-- R480: from a state that is not final, a program that terminates. -/
theorem test_terminates : (program ready [0x3A#32]).final = false ∧ (program ready [0x3A#32]).terminates := by
  refine ⟨by decide, fun choice ops fair => ?_⟩
  have start : AtRest (program ready [0x3A#32]) := ⟨rfl, rfl, rfl, rfl, rfl, rfl, rfl, rfl, rfl, .inl rfl⟩
  have rest : ∀ n, (∀ m, m < n → choice m ≠ .host) →
      ∃ t, (program ready [0x3A#32]).follow choice n = .next t ∧ AtRest t := by
    intro n
    induction n with
    | zero => exact fun _ => ⟨_, rfl, start⟩
    | succ n ih =>
      intro hn
      obtain ⟨t, ht, hk⟩ := ih (fun m hm => hn m (Nat.lt_succ_of_lt hm))
      rw [State.follow_succ, ht]
      exact atRest_step hk (hn n (Nat.lt_succ_self n)) (ops n)
  have named : ∃ m, choice m = .host := by
    refine Classical.byContradiction fun none => ?_
    obtain ⟨m, _, hm⟩ := fair.1 .host (.inl rfl) 0 (fun m _ => by
      obtain ⟨t, ht, hk⟩ := rest m (fun k _ e => none ⟨k, e⟩)
      exact ⟨t, ht, (atRest_ends hk).1⟩)
    exact none ⟨m, hm⟩
  have least : ∃ m, choice m = .host ∧ ∀ k, k < m → choice k ≠ .host := by
    classical
    exact ⟨Nat.find named, Nat.find_spec named, fun k hk => Nat.find_min named hk⟩
  obtain ⟨m, hm, before⟩ := least
  obtain ⟨t, ht, hk⟩ := rest m before
  obtain ⟨u, hu, hf⟩ := (atRest_ends hk).2
  exact ⟨m + 1, State.observation_isSome (by rw [State.follow_succ, ht, hm]; exact hu) hf⟩

/-- R446, R480: a program that faults does not terminate. -/
theorem test_does_not_terminate : ¬ (State.reset.raise .unsetRead).terminates := State.not_terminates_of_faulted rfl

/-- StepKeepsConfiguration: a layer enabled, and a step. -/
theorem witness_StepKeepsConfiguration :
    (let s : State := { shown with sched := [.scan] }
     s.ConfigInv ∧ s.ReservedInv ∧ s.HandlerInv ∧ ∃ t, step s = .next t) := by
  refine ⟨⟨by decide, by decide, ?_, ?_, ?_⟩, by unfold State.ReservedInv; decide, fun _ => rfl, _, rfl⟩
  · intro l; cases l <;> decide
  · intro l; cases l <;> decide
  · intro l c h
    cases l <;> exact Option.noConfusion rfl (heq_of_eq h)

/-- LogsOnlyGrow: a step that logs. -/
theorem witness_LogsOnlyGrow :
    nextWith (step { sending with link := { sending.link with data := .lpTx }, sched := [.link] })
      (fun t => t.logs.wire != []) = true := by decide

end Sys2Proof.Tests
end

section
/-! R99: a marked model fault stops the machine. -/

namespace Sys2Proof.Machine

/-- R99: the launch state carries no model fault. -/
@[simp] theorem State.reset_faulted : State.reset.faulted = none := rfl

/-- R99, R446: in a faulted state the step is the halt itself, whichever agent the schedule names. -/
theorem step_of_faulted {s : State} {c : FaultCode} (h : s.faulted = some c) : step s = .fault (.halted c) := by
  rw [step_eq, h]

/-- Settles O7: the launch state is unmarked, and a step looks at the mark before it looks at the schedule. -/
theorem faultedStateStops : Obligations.FaultedStateStops :=
  ⟨State.reset_faulted, fun _ _ => step_of_faulted⟩

end Sys2Proof.Machine
end

section
/-! R231: the settle predicate. -/

namespace Sys2Proof.Machine

theorem State.settled_of_none {s : State} (h : s.dsi.settleFrom = none) : s.settled = true := by
  rw [State.settled, h]

theorem State.settled_of_pending {s : State} {t0 : Nat} (h : s.dsi.settleFrom = some t0) :
    s.settled = true ↔ Config.tSettleUs ≤ s.now - t0 := by
  rw [State.settled, h]
  exact decide_eq_true_iff

/-- Settles O10, by whether a settle is pending. -/
theorem settledAfterDelay : Obligations.SettledAfterDelay := by
  intro s
  cases h : s.dsi.settleFrom with
  | none => simp [State.settled_of_none h]
  | some t0 => simp [State.settled_of_pending h]

end Sys2Proof.Machine
end

section
/-! R239 to R241, R262, R267: the LINK agent. -/

namespace Sys2Proof.Machine

/-- Recording a cause sets its bit and changes nothing else (R70). -/
theorem State.setCause_eq (s : State) (c : Cause) :
    s.setCause c = { s with irq := { s.irq with status := s.irq.status ||| 1#32 <<< c.bit } } := by
  rw [State.setCause, State.putStatus, putBit_true]

theorem linkSent_eq (p : Packet) (s : State) :
    linkSent p s =
      { s with
        logs := { s.logs with wire := s.logs.wire ++ [.txLp p] }
        irq := { s.irq with status := s.irq.status ||| 0x00001000#32 }
        link := { s.link with wrArray := [], data := .stop, job := none } } := by
  simp [linkSent, State.setCause_eq, State.emit, Cause.bit]

theorem linkTurn_eq (p : Packet) (s : State) :
    linkTurn p s =
      { s with
        logs := { s.logs with wire := s.logs.wire ++ [.txLp p, .bta] }
        link := { s.link with data := .bta, rxSent := [] } } := by
  simp [linkTurn, State.emit]

theorem linkUlpsEnter_eq (s : State) :
    linkUlpsEnter s =
      { s with
        logs := { s.logs with wire :=
          s.logs.wire ++ (if s.link.clk = .hs then [.clkLp] else []) ++ [.ulpsEntry .clock, .ulpsEntry .data] }
        irq := { s.irq with status := s.irq.status ||| 0x00001000#32 }
        link := { s.link with clk := .ulps, data := .ulps, job := none } } := by
  by_cases hclk : s.link.clk = .hs <;> simp [linkUlpsEnter, State.setCause_eq, State.emit, Cause.bit, hclk]

theorem linkUlpsExit_eq (s : State) :
    linkUlpsExit s =
      { s with
        logs := { s.logs with wire := s.logs.wire ++ [.ulpsExit .data, .ulpsExit .clock] }
        irq := { s.irq with status := s.irq.status ||| 0x00001000#32 }
        link := { s.link with clk := .lp, data := .stop, job := none } } := by
  simp [linkUlpsExit, State.setCause_eq, State.emit, Cause.bit]

theorem runChoice_link (s : State) : runChoice .link s = .next (linkStep s) := rfl

/-- Settles O20, by the pending job and, for each job, the data lanes' state. -/
theorem linkRunsJobs : Obligations.LinkRunsJobs := by
  intro s
  rw [runChoice_link, linkStep]
  cases s.link.job with
  | none => rfl
  | some job =>
    cases job with
    | txPkt p => cases s.link.data <;> simp only [linkBegin, linkSent_eq]
    | txRead p => cases s.link.data <;> simp only [linkBegin, linkTurn_eq]
    | ulpsEnter => cases s.link.data <;> simp only [linkUlpsEnter_eq]
    | ulpsExit => cases s.link.data <;> simp only [linkUlpsExit_eq]

end Sys2Proof.Machine
end

section
/-! R247: the drain of a read. -/

namespace Sys2Proof.Machine

/-- Outside the handler, the HOST in the drain phase of a read runs the drain (R247, R451). -/
theorem hostStep_drain {s : State} {cmd len : Byte} {t0 : Nat} {buf : List Byte} (hidle : s.isr.active = false)
    (hphase : s.phase = .reading cmd len t0 buf .drain) : hostStep s = .next (readDrain len buf s) := by
  simp [hostStep, hidle, hphase]

/-- Nothing was discarded: the demultiplexer's result stands. -/
theorem drainResult_zero (r : RxResult) : drainResult r 0 = r := by cases r <;> rfl

/-- The drain's effect (R247): the FIFO is empty, a diagnostic counts what was discarded, if anything, and the read
returns. -/
theorem readDrain_eq (len : Byte) (buf : List Byte) (s : State) :
    readDrain len buf s =
      { s with
        link := { s.link with rxFifo := [] }
        logs := { s.logs with diag :=
          s.logs.diag ++ (if s.link.rxFifo = [] then [] else [.extraRxBytes s.link.rxFifo.length]) }
        phase := .ready
        ret := .returned (.rx (drainResult (demux buf len.toNat) s.link.rxFifo.length)) } := by
  simp only [readDrain, rxDiscard_all]
  by_cases hfifo : s.link.rxFifo = []
  · simp [State.returnFromWait, hfifo]
  · simp [State.returnFromWait, State.logDiag, hfifo, List.length_pos_iff]

/-- Settles O23, by `readDrain_eq`; the result is the demultiplexer's own when the FIFO is empty, and a good one is
marked when it is not. -/
theorem readDrainFinishes : Obligations.ReadDrainFinishes := by
  intro s cmd len t0 buf hidle hphase
  rw [runChoice, hostStep_drain hidle hphase, readDrain_eq]
  cases s.link.rxFifo with
  | nil => cases demux buf len.toNat <;> simp [drainResult_zero]
  | cons b rest => cases demux buf len.toNat <;> simp [drainResult]

end Sys2Proof.Machine
end

section
/-! R248: the demultiplexer. -/

namespace Sys2Proof.Machine

/-- The word count of a long packet's header, least significant byte first. -/
theorem toNat_wordCount (d0 d1 : Byte) : (d1 ++ d0).toNat = d0.toNat + 256 * d1.toNat := by
  rw [BitVec.toNat_append, ← Nat.shiftLeft_add_eq_or_of_lt d0.isLt, Nat.shiftLeft_eq]
  omega

/-- The data type is the low six bits of the data identifier; the virtual channel above them is not looked at. -/
theorem toNat_dataType (di : Byte) : (di.extractLsb' 0 6).toNat = di.toNat % 64 := by
  simp [BitVec.extractLsb'_toNat]

theorem demux_short {buf : List Byte} (h : buf.length < 4) (len : Nat) : demux buf len = .malformed := by
  unfold demux
  split
  · simp only [List.length_cons] at h
    omega
  · rfl

/-- A response with a whole header, by its data type; the last case is every data type the table does not name. -/
theorem demux_header (di d0 d1 e : Byte) (payload : List Byte) (len : Nat) :
    demux (di :: d0 :: d1 :: e :: payload) len =
      (if di.toNat % 64 = 0x02 then .panelNack (d1 ++ d0)
      else if di.toNat % 64 = 0x11 ∨ di.toNat % 64 = 0x21 then .ok ([d0].take len)
      else if di.toNat % 64 = 0x12 ∨ di.toNat % 64 = 0x22 then .ok ([d0, d1].take len)
      else if di.toNat % 64 = 0x1A ∨ di.toNat % 64 = 0x1C then
        if payload.length < min (d0.toNat + 256 * d1.toNat) len then .malformed
        else .ok (payload.take (min (d0.toNat + 256 * d1.toNat) len))
      else .malformed) := by
  rw [← toNat_dataType, ← toNat_wordCount, demux]
  generalize di.extractLsb' 0 6 = dt
  split
  case h_8 h02 h11 h21 h12 h22 h1A h1C =>
    have hne {k : BitVec 6} (h : dt = k → False) : dt.toNat ≠ k.toNat := fun heq => h (BitVec.eq_of_toNat_eq heq)
    symm
    exact (if_neg (hne h02)).trans <| (if_neg (not_or.2 ⟨hne h11, hne h21⟩)).trans <|
      (if_neg (not_or.2 ⟨hne h12, hne h22⟩)).trans <| if_neg (not_or.2 ⟨hne h1A, hne h1C⟩)
  all_goals rfl

/-- A good payload is never longer than asked for: each is cut to that length. -/
theorem length_le_of_demux_ok {buf : List Byte} {len : Nat} {v : List Byte} (h : demux buf len = .ok v) :
    v.length ≤ len := by
  match buf with
  | [] | [_] | [_, _] | [_, _, _] => exact RxResult.noConfusion h
  | di :: d0 :: d1 :: e :: payload =>
    rw [demux_header] at h
    split_ifs at h <;> cases h
    · exact List.length_take_le len _
    · exact List.length_take_le len _
    · exact (List.length_take_le _ payload).trans (min_le_right _ _)

/-- Settles O24: a response without a whole header, one with, and the bound on the payload. -/
theorem demuxClassifies : Obligations.DemuxClassifies :=
  ⟨fun _ len hshort => demux_short hshort len, demux_header, fun _ _ _ => length_le_of_demux_ok⟩

end Sys2Proof.Machine
end

section
/-! R268 to R272: the TE interrupt enable, the classifiers and `dsi.clear_error`. -/

namespace Sys2Proof.Machine

theorem State.teirq_true (s : State) :
    s.teirq true
      = { s with irq := { s.irq with enable := s.irq.enable ||| 0x00000020#32 }, ret := .returned .ok } := by
  rw [State.teirq, putBit_true]
  rfl

theorem State.teirq_false (s : State) :
    s.teirq false
      = { s with irq := { s.irq with enable := s.irq.enable &&& ~~~0x00000020#32 }, ret := .returned .ok } := by
  rw [State.teirq, putBit_false]
  rfl

/-- Bits 9 to 11 can all be cleared by a write, so an operand masked to them is not masked further (R71). -/
theorem w1c_dsiErrors (status w : Word) : w1c status (w &&& dsiErrorMask) = status &&& ~~~(w &&& dsiErrorMask) := by
  have hmask : dsiErrorMask &&& w1cMask = dsiErrorMask := by decide
  rw [w1c, BitVec.and_assoc, hmask]

theorem exec_dsiTeirqEnable (s : State) : exec .dsiTeirqEnable s = .next (s.teirq true) := rfl

theorem exec_dsiTeirqDisable (s : State) : exec .dsiTeirqDisable s = .next (s.teirq false) := rfl

theorem exec_dsiClearError (w : Word) (s : State) :
    exec (.dsiClearError w) s = .next ((s.clearStatus (w &&& dsiErrorMask)).finish .ok) := rfl

/-- Settles O26: the five words and the two classifiers by evaluation, the two enables as writes of bit 5, and the
clear by `w1c_dsiErrors`. -/
theorem tePlumbingAndClassifiers : Obligations.TePlumbingAndClassifiers := by
  intro s w
  refine ⟨rfl, rfl, rfl, rfl, rfl, ?enable, ?disable, rfl, rfl, ?clear⟩
  case enable => rw [exec_dsiTeirqEnable, State.teirq_true]
  case disable => rw [exec_dsiTeirqDisable, State.teirq_false]
  case clear =>
    rw [exec_dsiClearError, State.clearStatus, w1c_dsiErrors]
    rfl

end Sys2Proof.Machine
end

section
/-! R416 to R420: `lcdc.error_clr` and the operations on the status and enable words. -/

namespace Sys2Proof.Machine

/-- Bits 7 and 8 can both be cleared by a write (R71). -/
theorem w1c_fatalMask (status : Word) : w1c status fatalMask = status &&& ~~~fatalMask := by
  have hmask : fatalMask &&& w1cMask = fatalMask := by decide
  rw [w1c, hmask]

/-- The interrupt registers once a fatal error is acknowledged (R416): its status bits cleared, and the enables the
handler had masked given back. -/
def Irq.acknowledged (q : Irq) : Irq :=
  { status := q.status &&& ~~~fatalMask
    enable := q.enable ||| (q.fatalMasked.setWidth 32 <<< 7)
    fatalMasked := 0#2 }

/-- The acknowledgement of a frame machine in `Error` (R416): it is armed again, or goes idle. -/
theorem errorClr_of_error {s : State} {k : ErrKind} (h : s.frame.fsm = .error k) :
    errorClr s =
      { s with
        irq := s.irq.acknowledged
        frame :=
          { s.frame with valid := false, fsm := if s.frame.arm = .te then .armedHardwareTE else .idle }
        ret := .returned .ok } := by
  simp only [errorClr, State.clearStatus, w1c_fatalMask, h]
  rfl

/-- In every other state the acknowledgement leaves the frame machine alone (R416). -/
theorem errorClr_of_ne_error {s : State} (h : ∀ k, s.frame.fsm ≠ .error k) :
    errorClr s = { s with irq := s.irq.acknowledged, ret := .returned .ok } := by
  rw [errorClr, State.clearStatus, w1c_fatalMask]
  split
  next k hk => exact absurd hk (h k)
  next => rfl

theorem exec_lcdcErrorClr (s : State) : exec .lcdcErrorClr s = .next (errorClr s) := rfl

/-- Settles O41: the words and the four operations on the status and enable words by evaluation, the acknowledgement
by whether the frame machine is in `Error`. -/
theorem interruptOperations : Obligations.InterruptOperations := by
  intro s w
  refine ⟨rfl, rfl, rfl, rfl, rfl, ?errorClr, rfl, rfl, rfl, rfl⟩
  case errorClr =>
    rw [exec_lcdcErrorClr]
    split
    next k hk => rw [errorClr_of_error hk]; rfl
    next hne => rw [errorClr_of_ne_error hne]; rfl

end Sys2Proof.Machine
end

section
/-! R451, R453, R456 to R458: the HOST and the ISR while the handler runs, and the idle ISR. -/

namespace Sys2Proof.Machine

/-- R451: while the handler runs, the HOST takes no step. -/
theorem hostStep_of_active {s : State} (hactive : s.isr.active = true) : hostStep s = .next s := by
  rw [hostStep, if_pos hactive]

/-- R453: the handler's next step performs the operation of the first work item. -/
theorem isrStep_of_work {s t : State} {a : Action} {rest : List Action} (hactive : s.isr.active = true)
    (hwork : s.isr.work = a :: rest) (hexec : exec a.instr s = .next t) : isrStep s = .next (workDone s rest t) := by
  rw [isrStep, if_pos hactive, hwork]
  simp only [hexec]

/-- R457: with no work left the handler returns. -/
theorem isrStep_of_no_work {s : State} (hactive : s.isr.active = true) (hwork : s.isr.work = []) :
    isrStep s = .next (handlerReturn s) := by
  rw [isrStep, if_pos hactive, hwork]

/-- R457: the return ends the handler and restores nothing. -/
theorem handlerReturn_of_no_work {s : State} (hwork : s.isr.work = []) :
    handlerReturn s = { s with isr := { active := false, work := [] } } := by
  simp only [handlerReturn, hwork]

/-- R450, R451: outside the handler, with the line low, the ISR does nothing. -/
theorem isrStep_of_line_low {s : State} (hidle : s.isr.active = false) (hline : s.irqLine = false) :
    isrStep s = .next s := by
  simp [isrStep, hidle, hline]

/-- R73, R450: the line is low exactly when none of its nine causes is both pending and enabled. -/
theorem State.irqLine_eq_false_iff_masked (s : State) :
    s.irqLine = false ↔ s.irq.status &&& s.irq.enable &&& enableMask = 0#32 :=
  bne_eq_false_iff_eq

/-- Settles O48: the HOST barred, then the ISR by what its work list and the line are; that a work item answers a next
state is `exec_answers_next`. -/
theorem handlerRunsWork : Obligations.HandlerRunsWork := by
  refine ⟨fun s => hostStep_of_active, ?work, ?noWork, ?lineLow⟩
  case work =>
    intro s a rest hactive hwork
    obtain ⟨t, hexec⟩ := exec_answers_next a.instr s
    refine ⟨t, ?_, isrStep_of_work hactive hwork hexec⟩
    cases a <;> exact hexec
  case noWork =>
    intro s hactive hwork
    rw [runChoice, isrStep_of_no_work hactive hwork, handlerReturn_of_no_work hwork]
  case lineLow =>
    intro s hidle hmasked
    exact isrStep_of_line_low hidle (s.irqLine_eq_false_iff_masked.2 hmasked)

end Sys2Proof.Machine
end

section
/-! R170 to R175: the decoder and the encoder. -/

namespace Sys2Proof

open Sys2Proof.Laws

/-! ### Decoding an encoded operation -/

/-- A command word whose row admits it is read by operand assembly (R170). -/
theorem decode_of_admits {h : Fields} {r : OpRow} (hrow : opRow h.op = some r) (hadmits : r.admits h = true)
    (ws : List Word) : decode (h.toWord :: ws) = assemble h ws := by
  simp only [decode, Fields.ofWord_toWord, hrow, hadmits, if_true]

/-- The row of every operation's opcode admits its command word (R173, R175). -/
theorem rowAdmits (i : Instr) : RowAdmits.Statement i := by
  cases i with
  | dsiInit => exact RowAdmits.dsiInit ..
  | dsiSend => exact RowAdmits.dsiSend ..
  | dsiRead => exact RowAdmits.dsiRead ..
  | dsiUlpsEnter => exact RowAdmits.dsiUlpsEnter
  | dsiUlpsExit => exact RowAdmits.dsiUlpsExit
  | dsiTeirqEnable => exact RowAdmits.dsiTeirqEnable
  | dsiTeirqDisable => exact RowAdmits.dsiTeirqDisable
  | dsiIsTe => exact RowAdmits.dsiIsTe _
  | dsiIsError => exact RowAdmits.dsiIsError _
  | dsiClearError => exact RowAdmits.dsiClearError _
  | dsiSleep => exact RowAdmits.dsiSleep
  | dsiWakeup => exact RowAdmits.dsiWakeup
  | lcdcSetTiming => exact RowAdmits.lcdcSetTiming _
  | lcdcSetModeDefaults => exact RowAdmits.lcdcSetModeDefaults
  | lcdcSetFormat => exact RowAdmits.lcdcSetFormat ..
  | lcdcSetBlend => exact RowAdmits.lcdcSetBlend ..
  | lcdcSetCkey => exact RowAdmits.lcdcSetCkey ..
  | lcdcSetCkeyAlpha => exact RowAdmits.lcdcSetCkeyAlpha ..
  | lcdcSetGeometry => exact RowAdmits.lcdcSetGeometry ..
  | lcdcWriteAddr => exact RowAdmits.lcdcWriteAddr ..
  | lcdcEnable => exact RowAdmits.lcdcEnable ..
  | lcdcSetPitch => exact RowAdmits.lcdcSetPitch ..
  | lcdcSetVmirror => exact RowAdmits.lcdcSetVmirror ..
  | lcdcReadFormat => exact RowAdmits.lcdcReadFormat _
  | lcdcStart => exact RowAdmits.lcdcStart
  | lcdcArmTe => exact RowAdmits.lcdcArmTe
  | lcdcTeTrigger => exact RowAdmits.lcdcTeTrigger
  | lcdcErrorClr => exact RowAdmits.lcdcErrorClr
  | irqEnable => exact RowAdmits.irqEnable _
  | irqDisable => exact RowAdmits.irqDisable
  | lcdcReset => exact RowAdmits.lcdcReset
  | hostSetCallback => exact RowAdmits.hostSetCallback ..
  | hostSetFaultCallback => exact RowAdmits.hostSetFaultCallback _
  | irqReadStatus => exact RowAdmits.irqReadStatus
  | irqNumber => exact RowAdmits.irqNumber

/-- The count and the packed words of `dsi.send` are read back as its parameters (R172). -/
theorem sendOperands_packLe {cmd : Byte} {params : List Byte} (hcount : params.length < 2 ^ 32) (rest : List Word) :
    sendOperands cmd (BitVec.ofNat 32 params.length :: packLe params ++ rest) = .ok (.dsiSend cmd params, rest) := by
  have hn : (BitVec.ofNat 32 params.length).toNat = params.length := by
    rw [BitVec.toNat_ofNat, Nat.mod_eq_of_lt hcount]
  simp only [sendOperands, List.cons_append, hn, ← length_packLe]
  rw [if_neg (by simp), List.take_left, List.drop_left, take_unpackLe_packLe]

/-- Operand assembly reads an operation back from its own fields and operand words (R172, R174). -/
theorem assemble_fields {i : Instr} (hwf : i.wellFormed = true) (rest : List Word) :
    assemble i.fields (i.operands ++ rest) = .ok (i, rest) := by
  cases i with
  | dsiSend cmd params =>
    have hcount : params.length < 2 ^ 32 := of_decide_eq_true hwf
    simpa [assemble, Instr.fields, Instr.operands, bareFields] using sendOperands_packLe hcount rest
  | dsiRead cmd len =>
    simp [assemble, Instr.fields, Instr.operands, bareFields, extract_low_append, extract_high_append]
  | hostSetCallback l id =>
    cases id <;>
      simp [assemble, Instr.fields, Instr.operands, bareFields, callbackFields, callbackOperand, Except.map]
  | hostSetFaultCallback id =>
    cases id <;>
      simp [assemble, Instr.fields, Instr.operands, bareFields, callbackFields, callbackOperand, Except.map]
  | _ =>
    simp [assemble, Instr.fields, Instr.operands, bareFields, oneOperand, twoOperands, threeOperands, timingOperands]

/-- Settles O1: the operation's row admits its command word, and operand assembly reads the operation back. -/
theorem decodeEncodeRoundTrip : Obligations.DecodeEncodeRoundTrip := by
  intro i rest hwf
  obtain ⟨r, hrow, hadmits, -⟩ := rowAdmits i
  rw [Fields.ofWord_toWord] at hrow hadmits
  rw [encode, List.cons_append, decode_of_admits hrow hadmits, assemble_fields hwf]

/-! ### What decodes -/

/-- What a successful decode went through: the row of the opcode, the reserved-zero check, operand assembly (R170). -/
theorem decode_ok {ws : List Word} {i : Instr} {rest : List Word} (h : decode ws = .ok (i, rest)) :
    ∃ w0 tl r, ws = w0 :: tl ∧ opRow (Fields.ofWord w0).op = some r ∧ r.admits (Fields.ofWord w0) = true
      ∧ assemble (Fields.ofWord w0) tl = .ok (i, rest) := by
  unfold decode at h
  split at h
  · cases h
  · rename_i w0 tl
    dsimp only at h
    split at h
    · cases h
    · rename_i r hrow
      split at h
      · rename_i hadmits
        exact ⟨w0, tl, r, rfl, hrow, hadmits, h⟩
      · cases h

theorem oneOperand_ok {k : Word → Instr} {ws rest : List Word} {i : Instr} (h : oneOperand k ws = .ok (i, rest)) :
    ∃ w1, i = k w1 ∧ ws = w1 :: rest := by
  unfold oneOperand at h
  split at h <;> cases h
  exact ⟨_, rfl, rfl⟩

theorem twoOperands_ok {k : Word → Word → Instr} {ws rest : List Word} {i : Instr}
    (h : twoOperands k ws = .ok (i, rest)) : ∃ w1 w2, i = k w1 w2 ∧ ws = w1 :: w2 :: rest := by
  unfold twoOperands at h
  split at h <;> cases h
  exact ⟨_, _, rfl, rfl⟩

theorem threeOperands_ok {k : Word → Word → Word → Instr} {ws rest : List Word} {i : Instr}
    (h : threeOperands k ws = .ok (i, rest)) : ∃ w1 w2 w3, i = k w1 w2 w3 ∧ ws = w1 :: w2 :: w3 :: rest := by
  unfold threeOperands at h
  split at h <;> cases h
  exact ⟨_, _, _, rfl, rfl⟩

theorem timingOperands_ok {ws rest : List Word} {i : Instr} (h : timingOperands ws = .ok (i, rest)) :
    ∃ t, i = .lcdcSetTiming t ∧ ws = (Instr.lcdcSetTiming t).operands ++ rest := by
  unfold timingOperands at h
  split at h <;> cases h
  exact ⟨_, rfl, rfl⟩

/-- What `dsi.send` is read as is well-formed: its parameters are no more than its count word says (R172). -/
theorem sendOperands_ok {cmd : Byte} {ws rest : List Word} {i : Instr} (h : sendOperands cmd ws = .ok (i, rest)) :
    ∃ params, i = .dsiSend cmd params ∧ params.length < 2 ^ 32 := by
  unfold sendOperands at h
  split at h
  · cases h
  · rename_i w1 tl
    dsimp only at h
    split at h <;> cases h
    exact ⟨_, rfl, (List.length_take_le _ _).trans_lt w1.isLt⟩

/-- The callback operand is the one F and IMM carry (R174). -/
theorem callbackOperand_ok {f : BitVec 1} {imm : BitVec 16} {id : Option CallbackId}
    (h : callbackOperand f imm = .ok id) : ∀ g : Fields, callbackFields g id = { g with f := f, imm := imm } := by
  intro g
  unfold callbackOperand at h
  split at h
  · rename_i hf
    cases h
    simp [callbackFields, hf]
  · rename_i hf
    split at h <;> cases h
    rename_i himm
    have hf0 : f = 0#1 := by
      have hbit : ∀ b : BitVec 1, b ≠ 1#1 → b = 0#1 := by decide
      exact hbit f hf
    simp [callbackFields, hf0, himm]

theorem exists_of_map_eq_ok {α β : Type} {f : α → β} {x : Except Reject α} {b : β} (h : x.map f = .ok b) :
    ∃ a, x = .ok a ∧ b = f a := by
  cases x <;> cases h
  exact ⟨_, rfl, rfl⟩

/-- A row that uses IMM[7:0] only admits the IMM fields that are a byte operand (R173, R174). -/
theorem immLow_extract {imm : BitVec 16} (h : imm &&& 0xFF00#16 = 0#16) : immLow (imm.extractLsb' 0 8) = imm := by
  apply BitVec.eq_of_getLsbD_eq
  intro j hj
  have hbit : (imm.getLsbD j && (0xFF00#16).getLsbD j) = false := by
    rw [← BitVec.getLsbD_and, h, BitVec.getLsbD_zero]
  have hm : (0xFF00#16).getLsbD j = !decide (j < 8) := by interval_cases j <;> rfl
  simp only [immLow, BitVec.getLsbD_append, BitVec.getLsbD_extractLsb']
  by_cases h8 : j < 8
  · simp [h8]
  · simpa [h8, hm] using hbit.symm

theorem append_extract_bytes (imm : BitVec 16) : (imm.extractLsb' 8 8 ++ imm.extractLsb' 0 8 : BitVec 16) = imm := by
  apply BitVec.eq_of_getLsbD_eq
  intro j hj
  simp only [BitVec.getLsbD_append, BitVec.getLsbD_extractLsb']
  split
  · simp_all
  · rw [decide_eq_true (by omega), Bool.true_and]
    congr 1
    omega

theorem and_wholeImm (imm : BitVec 16) : imm &&& 0xFFFF#16 = imm := BitVec.and_allOnes

/-- Operand assembly reads well-formed operations only, and, but for `dsi.send`, from their own fields and operand words
(R172 to R174). The cases are the opcodes, by how many operand words follow and which part of IMM is used. -/
theorem assemble_ok {h : Fields} {r : OpRow} {ws rest : List Word} {i : Instr} (hrow : opRow h.op = some r)
    (hadmits : r.admits h = true) (hasm : assemble h ws = .ok (i, rest)) :
    i.wellFormed = true ∧ ((∀ cmd params, i ≠ .dsiSend cmd params) → h = i.fields ∧ ws = i.operands ++ rest) := by
  obtain ⟨op, l, c, f, s, imm⟩ := h
  unfold assemble at hasm
  dsimp only at hasm hrow
  split at hasm
  case h_36 => cases hasm
  all_goals
    cases hrow
    simp only [OpRow.admits, Bool.and_eq_true, Bool.or_eq_true, beq_iff_eq, Bool.false_eq_true, false_or, true_or,
      true_and, and_assoc] at hadmits
  case h_2.refl =>
    obtain ⟨params, rfl, hcount⟩ := sendOperands_ok hasm
    exact ⟨decide_eq_true hcount, fun hne => absurd rfl (hne _ _)⟩
  case h_3.refl =>
    obtain ⟨rfl, rfl, rfl, rfl, -⟩ := hadmits
    cases hasm
    simp [Instr.wellFormed, Instr.fields, Instr.operands, bareFields, append_extract_bytes]
  case h_13.refl =>
    obtain ⟨rfl, rfl, rfl, rfl, himm⟩ := hadmits
    obtain ⟨t, rfl, rfl⟩ := timingOperands_ok hasm
    simp_all [Instr.wellFormed, Instr.fields, bareFields, and_wholeImm]
  case h_32.refl | h_33.refl =>
    obtain ⟨id, hid, hpair⟩ := exists_of_map_eq_ok hasm
    cases hpair
    simp_all [Instr.wellFormed, Instr.fields, Instr.operands, bareFields, callbackOperand_ok hid]
  case h_1.refl | h_17.refl =>
    obtain ⟨w1, w2, rfl, rfl⟩ := twoOperands_ok hasm
    simp_all [Instr.wellFormed, Instr.fields, Instr.operands, bareFields, immLow_extract, and_wholeImm]
  case h_19.refl =>
    obtain ⟨w1, w2, w3, rfl, rfl⟩ := threeOperands_ok hasm
    simp_all [Instr.wellFormed, Instr.fields, Instr.operands, bareFields, and_wholeImm]
  case h_8.refl | h_9.refl | h_10.refl | h_20.refl | h_29.refl =>
    obtain ⟨w1, rfl, rfl⟩ := oneOperand_ok hasm
    simp_all [Instr.wellFormed, Instr.fields, Instr.operands, bareFields, and_wholeImm]
  all_goals
    cases hasm
    simp_all [Instr.wellFormed, Instr.fields, Instr.operands, bareFields, immLow_extract, and_wholeImm]

/-- Settles O2: the decode went through operand assembly, which reads well-formed operations from their own words. -/
theorem decodedWordsReencode : Obligations.DecodedWordsReencode := by
  intro ws i rest hdecode
  obtain ⟨w0, tl, r, rfl, hrow, hadmits, hasm⟩ := decode_ok hdecode
  obtain ⟨hwf, hwords⟩ := assemble_ok hrow hadmits hasm
  refine ⟨hwf, fun hsend => ?_⟩
  obtain ⟨hfields, rfl⟩ := hwords hsend
  rw [encode, ← hfields, Fields.toWord_ofWord, List.cons_append]

/-! ### What is refused -/

/-- An unassigned opcode is refused (R173). -/
theorem decode_of_unassigned {w : Word} (h : opRow (w.extractLsb' 0 8) = none) (rest : List Word) :
    decode (w :: rest) = .error .illegalCommand := by
  have hop : (Fields.ofWord w).op = w.extractLsb' 0 8 := rfl
  simp only [decode, hop, h]

/-- A command word its row does not accept is refused (R173). -/
theorem decode_of_not_admits {w : Word} {r : OpRow} (hrow : opRow (w.extractLsb' 0 8) = some r)
    (h : r.admits (Fields.ofWord w) = false) (rest : List Word) : decode (w :: rest) = .error .illegalCommand := by
  have hop : (Fields.ofWord w).op = w.extractLsb' 0 8 := rfl
  simp [decode, hop, hrow, h]

/-- The mask of two command words, field by field. -/
theorem Fields.toWord_and (g h : Fields) :
    g.toWord &&& h.toWord = Fields.toWord
      { op := g.op &&& h.op, l := g.l &&& h.l, c := g.c &&& h.c, f := g.f &&& h.f, s := g.s &&& h.s,
        imm := g.imm &&& h.imm } := by
  simp only [Fields.toWord, ← BitVec.and_append]

/-- The bits of `word0` above the opcode that a row marks reserved-zero (R173). -/
def OpRow.reservedMask (r : OpRow) : Word := r.fixedMask &&& 0xFFFFFF00#32

/-- The reserved-zero bits of a command word its row admits are zero (R173). -/
theorem OpRow.and_reservedMask_of_admits {r : OpRow} {w : Word} (h : r.admits (Fields.ofWord w) = true) :
    w &&& r.reservedMask = 0#32 := by
  have hsplit : (0xFFFFFF00#32 : Word) = Fields.toWord
      { op := 0#8, l := 3#2, c := 1#1, f := 1#1, s := 15#4, imm := 0xFFFF#16 } := rfl
  have hzero : (0#32 : Word) = (bareFields 0#8).toWord := rfl
  have hnz {n : Nat} (used : Bool) (x m : BitVec n) (hx : used = true ∨ x = 0#n) :
      x &&& ((if used then 0#n else m) &&& m) = 0#n := by
    rcases hx with rfl | rfl <;> simp
  simp only [OpRow.admits, Bool.and_eq_true, Bool.or_eq_true, beq_iff_eq] at h
  obtain ⟨⟨⟨⟨hl, hc⟩, hf⟩, hs⟩, himm⟩ := h
  rw [← Fields.toWord_ofWord w, OpRow.reservedMask, OpRow.fixedMask, hsplit, hzero, Fields.toWord_and,
    Fields.toWord_and, bareFields, hnz _ _ _ hl, hnz _ _ _ hc, hnz _ _ _ hf, hnz _ _ _ hs, and_wholeImm, himm]
  simp

/-- A callback row's word whose register flag is clear is refused, if it carries a callback id (R174). -/
theorem decode_callback_without_flag {w : Word} (hop : w.extractLsb' 0 8 = 0x37#8 ∨ w.extractLsb' 0 8 = 0x38#8)
    (hflag : w.getLsbD 11 = false) (hid : w.extractLsb' 16 16 ≠ 0#16) (rest : List Word) :
    decode (w :: rest) = .error .illegalCommand := by
  have hf : w.extractLsb' 11 1 ≠ 1#1 := by
    intro h
    have hbit := congrArg (fun b => b.getLsbD 0) h
    rw [BitVec.getLsbD_extractLsb', hflag] at hbit
    exact absurd hbit (by decide)
  have hcb : callbackOperand (w.extractLsb' 11 1) (w.extractLsb' 16 16) = .error .illegalCommand := by
    rw [callbackOperand, if_neg hf, if_neg hid]
  obtain ⟨r, hrow⟩ : ∃ r, opRow (w.extractLsb' 0 8) = some r := by
    rcases hop with h | h <;> rw [h] <;> exact ⟨_, rfl⟩
  cases hadmits : r.admits (Fields.ofWord w) with
  | false => exact decode_of_not_admits hrow hadmits rest
  | true =>
    rw [← Fields.toWord_ofWord w, decode_of_admits hrow hadmits]
    rcases hop with h | h <;> simp [assemble, Fields.ofWord, h, hcb, Except.map]

/-- Settles O4: an unassigned opcode has no row; each mask of the list is the reserved mask of its opcode's row; a
callback id needs its flag. -/
theorem reservedWordsRefused : Obligations.ReservedWordsRefused := by
  refine ⟨?unassigned, ?reserved, fun w rest hop hflag hid => decode_callback_without_flag hop hflag hid rest⟩
  case unassigned =>
    rintro w rest op rfl hop
    refine decode_of_unassigned (opRow_none fun r hr heq => ?_) rest
    have hassigned : ∀ r ∈ opTable, r.op.toNat ≠ 0 ∧ ¬ (0x0D ≤ r.op.toNat ∧ r.op.toNat ≤ 0x0F)
        ∧ ¬ (0x12 ≤ r.op.toNat ∧ r.op.toNat ≤ 0x1F) ∧ ¬ (0x2A ≤ r.op.toNat ∧ r.op.toNat ≤ 0x2F)
        ∧ r.op.toNat < 0x3B := by decide
    have := hassigned r hr
    rw [heq] at this
    omega
  case reserved =>
    intro p hp w rest hop hbits
    have hmask : (opRow p.1).map OpRow.reservedMask = some p.2 := by
      clear hop hbits
      fin_cases hp <;> rfl
    obtain ⟨r, hrow, hr⟩ := Option.map_eq_some_iff.1 hmask
    rw [← hop] at hrow
    refine decode_of_not_admits hrow (Bool.eq_false_iff.2 fun hadmits => hbits ?_) rest
    rw [← hr, OpRow.and_reservedMask_of_admits hadmits]

end Sys2Proof
end

section
/-! R140, R171, R180 to R190: known command words, packed bytes, and the wire form of packets. -/

namespace Sys2Proof

/-- Settles O3: the eight words are evaluated. -/
theorem knownWordsDecode : Obligations.KnownWordsDecode :=
  ⟨rfl, rfl, rfl, rfl, rfl, rfl, rfl, rfl⟩

/-- Byte `j` of a word put together from four bytes is the `j`-th of them (R140). -/
theorem extract_wordOfBytes (b0 b1 b2 b3 : Byte) {j : Nat} (hj : j < 4) :
    (wordOfBytes b0 b1 b2 b3).extractLsb' (8 * j) 8 = [b0, b1, b2, b3][j] := by
  have h := wordBytes_wordOfBytes b0 b1 b2 b3
  simp only [wordBytes, List.cons.injEq, and_true] at h
  obtain ⟨h0, h1, h2, h3⟩ := h
  match j with
  | 0 => exact h0
  | 1 => exact h1
  | 2 => exact h2
  | 3 => exact h3

/-- Byte `j` of word `k` is byte `4 k + j`, and zero past the last byte (R140). -/
theorem extract_packLe (bs : List Byte) (k : Nat) (hk : k < (packLe bs).length) {j : Nat} (hj : j < 4) :
    ((packLe bs)[k]).extractLsb' (8 * j) 8 = (bs[4 * k + j]?).getD 0#8 := by
  induction bs using packLe.induct generalizing k with
  | case1 => exact absurd hk (Nat.not_lt_zero k)
  | case5 b0 b1 b2 b3 rest ih =>
    cases k with
    | zero =>
      simp only [packLe, List.getElem_cons_zero, extract_wordOfBytes _ _ _ _ hj]
      match j with
      | 0 | 1 | 2 | 3 => rfl
    | succ k =>
      have hindex : 4 * (k + 1) + j = (4 * k + j) + 4 := by omega
      simpa [packLe, hindex] using ih k (by simpa [packLe] using hk)
  | _ =>
    obtain rfl : k = 0 := by simpa [packLe] using hk
    simp only [packLe, List.getElem_cons_zero, extract_wordOfBytes _ _ _ _ hj]
    match j with
    | 0 | 1 | 2 | 3 => rfl

/-- Settles O8, by the recursion of `pack_le`: four bytes to a word. -/
theorem packLeBytePositions : Obligations.PackLeBytePositions :=
  fun bs => ⟨length_packLe bs, fun k hk _ hj => extract_packLe bs k hk hj⟩

end Sys2Proof

namespace Sys2Proof.Machine

/-- The data type is read back from the data identifier (R180). -/
@[simp] theorem extract_dataId (dt : BitVec 6) : (dataId dt).extractLsb' 0 6 = dt := by
  apply BitVec.eq_of_getLsbD_eq
  intro j hj
  simp only [dataId, BitVec.getLsbD_extractLsb', BitVec.getLsbD_append, hj, decide_true, Bool.true_and, Nat.zero_add,
    if_true]

/-- A short packet's wire bytes are read back (R181). -/
theorem ofWire_short {dir : Direction} {dt : BitVec 6} (d0 d1 : Byte) (hform : isLongType dir dt = false) :
    Packet.ofWire dir (Packet.short dt d0 d1).wireBytes = some (.short dt d0 d1) := by
  simp [Packet.ofWire, Packet.wireBytes, hform]

/-- A long packet's wire bytes are read back: the word count says where the checksum begins (R182, R184). -/
theorem ofWire_long {dir : Direction} {dt : BitVec 6} {payload : List Byte} (hform : isLongType dir dt = true)
    (hfits : payload.length < 2 ^ 16) :
    Packet.ofWire dir (Packet.long dt payload).wireBytes = some (.long dt payload) := by
  have hcount : (BitVec.ofNat 16 payload.length).toNat = payload.length := by
    rw [BitVec.toNat_ofNat, Nat.mod_eq_of_lt hfits]
  simp only [Packet.ofWire, Packet.wireBytes, List.cons_append, List.nil_append, extract_dataId, hform,
    append_extract_bytes, hcount, ne_eq, not_true_eq_false, if_false, if_true, List.take_left, List.drop_left,
    and_self]

/-- Settles O9, by the packet's form. -/
theorem packetWireRoundTrip : Obligations.PacketWireRoundTrip := by
  intro dir p hfits hform
  cases p with
  | short dt d0 d1 => exact ofWire_short d0 d1 hform
  | long dt payload => exact ofWire_long hform (of_decide_eq_true hfits)

end Sys2Proof.Machine
end

section
/-! R9, R132, R149, R173, R448: the HOST's turn. -/

namespace Sys2Proof.Machine

/-- When it is the HOST's turn and words are left, the step issues the operation at their head (R9, R96). -/
theorem step_of_hostsTurn {s : State} (hturn : s.hostsTurn) (hwords : s.prog.words ≠ []) :
    step s = hostIssue s.popChoice := by
  obtain ⟨hfault, hsched, hidle, hphase⟩ := hturn
  have hchoice : nextChoice s = .host := by
    rcases hsched with h | ⟨rest, h⟩ <;> rw [nextChoice, h]
  obtain ⟨w, ws, hw⟩ := List.exists_cons_of_ne_nil hwords
  simp [step_eq, hfault, hchoice, runChoice, hostStep, hidle, hphase, hw]

/-- Settles O5: the words that decode are not empty, so the step issues their operation, which answers a next state. -/
theorem decodedInstructionRuns : Obligations.DecodedInstructionRuns := by
  intro s i rest hturn hdecode
  obtain ⟨t, hexec⟩ := exec_answers_next i s.popChoice
  have hwords : s.prog.words ≠ [] := by
    intro h
    rw [h] at hdecode
    cases hdecode
  have hdecode' : decode s.popChoice.prog.words = .ok (i, rest) := hdecode
  refine ⟨t, hexec, ?_⟩
  rw [step_of_hostsTurn hturn hwords, hostIssue, hdecode']
  simp only [hexec]
  rfl

/-- Settles O6: the issue of a word that does not decode, and a register access, are refused. -/
theorem refusedWordStopsRun : Obligations.RefusedWordStopsRun := by
  refine ⟨fun s r hturn hwords hdecode => ?_, fun s a bytes rest hfault hsched => ?_⟩
  · have hdecode' : decode s.popChoice.prog.words = .error r := hdecode
    rw [step_of_hostsTurn hturn hwords, hostIssue, hdecode']
    cases r <;> rfl
  · simp [step_eq, hfault, nextChoice, hsched, runChoice, wordAccess]

end Sys2Proof.Machine
end

section
/-! R175: what each host operation of the DSI family runs. -/

namespace Sys2Proof.Machine

theorem exec_dsiInit (lanes : BitVec 4) (mode : DisplayMode) (bitClock pixelClock : Word) (s : State) :
    exec (.dsiInit lanes mode bitClock pixelClock) s = .next (dsiInit lanes mode bitClock pixelClock s) := rfl

theorem exec_dsiSend (cmd : Byte) (params : List Byte) (s : State) :
    exec (.dsiSend cmd params) s = .next (dsiSend cmd params s) := rfl

theorem exec_dsiRead (cmd len : Byte) (s : State) : exec (.dsiRead cmd len) s = .next (dsiRead cmd len s) := rfl

theorem exec_dsiUlpsEnter (s : State) : exec .dsiUlpsEnter s = .next (dsiUlpsEnter s) := rfl

theorem exec_dsiUlpsExit (s : State) : exec .dsiUlpsExit s = .next (dsiUlpsExit s) := rfl

theorem exec_dsiSleep (s : State) : exec .dsiSleep s = .next (dsiSleep s) := rfl

theorem exec_dsiWakeup (s : State) : exec .dsiWakeup s = .next (dsiWakeup s) := rfl

end Sys2Proof.Machine
end

section
/-! R230: `dsi.init`. -/

namespace Sys2Proof.Machine

/-- With no job, the PHY powered and no frame in flight, `dsi.init` decides by its operands (R230). -/
theorem dsiInit_of_enabled {s : State} (hjob : s.link.job = none) (hpower : s.dsi.power = .on)
    (hfsm : s.frame.fsm ≠ .scanning) (lanes : BitVec 4) (mode : DisplayMode) (bitClock pixelClock : Word) :
    dsiInit lanes mode bitClock pixelClock s = (LaneCount.ofBits lanes).elim (s.finish .invalidConfig) fun n =>
      if pixelClock = 0#32 ∨ 31 < bitClock.toNat / pixelClock.toNat then s.finish .invalidConfig
      else State.finish { s.phyReset with
        dsi := s.dsi.program n mode bitClock (bitClock.toNat / pixelClock.toNat) } .ok := by
  simp only [dsiInit, hjob, hpower, hfsm, Option.isSome_none, Bool.false_eq_true, if_false, reduceCtorEq,
    State.phyReset_frame, ite_or]
  cases LaneCount.ofBits lanes <;> rfl

theorem LaneCount.ofBits_eq_none {lanes : BitVec 4} (h : lanes ≠ 1#4 ∧ lanes ≠ 2#4) : LaneCount.ofBits lanes = none := by
  simp [LaneCount.ofBits, h]

/-- Settles O11: the operands are good, and the programming step writes the video fields in Video mode only. -/
theorem dsiInitProgramsLink : Obligations.DsiInitProgramsLink := by
  intro s lanes n mode bitClock pixelClock hjob hpower hfsm hlanes hclock hdiv
  have hcount : LaneCount.ofBits lanes = some n := by
    rcases hlanes with ⟨rfl, rfl⟩ | ⟨rfl, rfl⟩ <;> rfl
  rw [exec_dsiInit, dsiInit_of_enabled hjob hpower hfsm, hcount, Option.elim_some,
    if_neg (not_or.2 ⟨hclock, Nat.not_lt.2 hdiv⟩)]
  cases mode <;> rfl

/-- Settles O12, clause by clause in R230's order. -/
theorem dsiInitOtherwise : Obligations.DsiInitOtherwise := by
  intro s lanes mode bitClock pixelClock
  simp only [exec_dsiInit]
  refine ⟨fun hjob => ?held, fun hjob hpower => ?asleep, fun hjob hpower hfsm => ?scanning,
    fun hjob hpower hfsm hbad => ?invalid⟩
  case held =>
    rw [dsiInit, if_pos (Option.isSome_iff_ne_none.2 hjob)]
    rfl
  case asleep =>
    rw [dsiInit, if_neg (by simp [hjob]), if_pos hpower]
    rfl
  case scanning =>
    rw [dsiInit, if_neg (by simp [hjob]), if_neg (by simp [hpower]), if_pos hfsm]
    rfl
  case invalid =>
    rw [dsiInit_of_enabled hjob hpower hfsm]
    rcases hbad with hlanes | hclock
    · rw [LaneCount.ofBits_eq_none hlanes]
      rfl
    · cases LaneCount.ofBits lanes with
      | none => rfl
      | some n =>
        rw [Option.elim_some, if_pos hclock]
        rfl

end Sys2Proof.Machine
end

section
/-! R72, R138, R232, R233, R235, R245: command traffic. -/

namespace Sys2Proof.Machine

/-- The status bits that starting a job clears: `CMD_DONE`, and for a read `RX_DONE` too (R72). -/
def Job.clears (j : Job) : Word :=
  match j with
  | .txRead _ => 0x00003000#32
  | _ => 0x00001000#32

/-- Starting a job makes it pending and clears its status bits (R67, R72). -/
theorem State.startJob_eq (s : State) (j : Job) :
    s.startJob j =
      { s with
        irq := { s.irq with status := s.irq.status &&& ~~~j.clears }
        link := { s.link with job := some j } } := by
  calc s.startJob j
    _ = { s with irq := (s.startJob j).irq, link := { s.link with job := some j } } := by cases j <;> rfl
    _ = _ := by
      rw [State.startJob_irq]
      cases j <;> rfl

/-- Pushing words to the write array appends them (R138). -/
theorem State.wrPushAll_eq (s : State) (ws : List Word) :
    s.wrPushAll ws = { s with link := { s.link with wrArray := s.link.wrArray ++ ws } } := by
  rw [← State.wrPushAll_link]
  unfold State.wrPushAll
  induction ws generalizing s with
  | nil => rfl
  | cons w ws ih =>
    rw [List.foldl_cons, ih]
    rfl

/-- An accepted `dsi.send` passes its checks (R232, R233). -/
theorem State.commandReady_checks {s : State} (hready : s.commandReady) : s.cmdChecks = none ∧ s.laneFree = true := by
  obtain ⟨hdsi, hulps, hlanes⟩ := hready
  exact ⟨s.cmdChecks_eq_none.2 ⟨hdsi, hulps⟩, s.laneFree_iff.2 hlanes⟩

/-- An accepted `dsi.send` of no parameter (R235). -/
theorem dsiSend_nil {s : State} (hready : s.commandReady) (cmd : Byte) :
    dsiSend cmd [] s = (s.startJob (.txPkt (.short dtDcsShort0 cmd 0#8))).finish .ok := by
  obtain ⟨hchecks, hfree⟩ := State.commandReady_checks hready
  simp [dsiSend, hchecks, hfree]

/-- An accepted `dsi.send` of one parameter (R235). -/
theorem dsiSend_one {s : State} (hready : s.commandReady) (cmd p : Byte) :
    dsiSend cmd [p] s = (s.startJob (.txPkt (.short dtDcsShort1 cmd p))).finish .ok := by
  obtain ⟨hchecks, hfree⟩ := State.commandReady_checks hready
  simp [dsiSend, hchecks, hfree]

/-- An accepted `dsi.send` of two parameters or more (R235). -/
theorem dsiSend_long {s : State} (hready : s.commandReady) (cmd p q : Byte) (rest : List Byte) :
    dsiSend cmd (p :: q :: rest) s =
      if Config.longMax < (p :: q :: rest).length + 1 then s.fail .longTooBig
      else ((s.wrPushAll (packLe (cmd :: p :: q :: rest))).startJob
        (.txPkt (.long dtDcsLong (cmd :: p :: q :: rest)))).finish .ok := by
  obtain ⟨hchecks, hfree⟩ := State.commandReady_checks hready
  simp [dsiSend, hchecks, hfree]

/-- Settles O13, by the number of parameters. -/
theorem dsiSendQueuesPacket : Obligations.DsiSendQueuesPacket := by
  intro s cmd params hready
  rw [exec_dsiSend]
  match params with
  | [] => simp only [dsiSend_nil hready, State.startJob_eq, Job.clears, State.finish, dtDcsShort0]
  | [p] => simp only [dsiSend_one hready, State.startJob_eq, Job.clears, State.finish, dtDcsShort1]
  | p :: q :: rest =>
    rw [dsiSend_long hready]
    by_cases hlong : Config.longMax < (p :: q :: rest).length + 1
    · simp only [if_pos hlong, if_neg (Nat.not_le.2 hlong)]
      rfl
    · simp only [if_neg hlong, if_pos (Nat.not_lt.1 hlong), State.wrPushAll_eq, State.startJob_eq, Job.clears,
        State.finish, dtDcsLong]

/-- What an accepted `dsi.read` does outside the handler (R245). -/
theorem dsiRead_of_ready {s : State} (hidle : s.isr.active = false) (hready : s.commandReady) (cmd len : Byte) :
    dsiRead cmd len s =
      { s.flushOnIssue.startJob (.txRead (.short dtDcsRead cmd 0#8)) with
        phase := .reading cmd len s.now [] .poll, ret := .waiting } := by
  obtain ⟨hchecks, hfree⟩ := State.commandReady_checks hready
  simp only [dsiRead, hidle, hchecks, hfree, Bool.not_true, Bool.false_eq_true, if_false]

/-- Settles O14. -/
theorem dsiReadIssuesRequest : Obligations.DsiReadIssuesRequest := by
  intro s cmd len hidle hready
  rw [exec_dsiRead, dsiRead_of_ready hidle hready, State.startJob_eq]
  rfl

/-- The ULPS checks as one chain of conditions, in order (R232). -/
theorem State.ulpsChecks_elim {α : Type} (s : State) (hold : α) (fail : FaultCode → α) :
    s.ulpsChecks.elim hold fail =
      if s.dsi.configured = false then fail .notConfigured
      else if s.dsi.power = .off then fail .dsiAsleep
      else if s.settled = false then fail .linkNotReady
      else hold := by
  unfold State.ulpsChecks
  cases s.dsi.configured <;> cases s.dsi.power <;> cases s.settled <;> rfl

/-- The command checks as one chain of conditions, in order (R232). -/
theorem State.cmdChecks_elim {α : Type} (s : State) (hold : α) (fail : FaultCode → α) :
    s.cmdChecks.elim hold fail =
      if s.dsi.configured = false then fail .notConfigured
      else if s.dsi.power = .off then fail .dsiAsleep
      else if s.settled = false then fail .linkNotReady
      else if s.link.ulps = .entered then fail .linkNotReady
      else hold := by
  rw [← State.ulpsChecks_elim s (if s.link.ulps = .entered then fail .linkNotReady else hold) fail]
  unfold State.cmdChecks
  cases s.ulpsChecks with
  | none => cases s.link.ulps <;> rfl
  | some c => rfl

/-- With no fault, traffic that is not accepted finds the lanes busy (R232, R233). -/
theorem State.laneFree_of_not_ready {s : State} (hready : ¬ s.commandReady) (hchecks : s.cmdChecks = none) :
    s.laneFree = false := by
  obtain ⟨hdsi, hulps⟩ := s.cmdChecks_eq_none.1 hchecks
  rw [Bool.eq_false_iff]
  exact fun hfree => hready ⟨hdsi, hulps, s.laneFree_iff.1 hfree⟩

/-- `dsi.send` that is not accepted raises the first fault that applies, and holds if none does (R232, R233). -/
theorem dsiSend_of_not_ready {s : State} (hready : ¬ s.commandReady) (cmd : Byte) (params : List Byte) :
    dsiSend cmd params s = s.cmdChecks.elim s.hold s.fail := by
  unfold dsiSend
  cases hchecks : s.cmdChecks with
  | some c => rfl
  | none => simp [State.laneFree_of_not_ready hready hchecks]

/-- `dsi.read` that is not accepted does the same outside the handler (R232, R233). -/
theorem dsiRead_of_not_ready {s : State} (hidle : s.isr.active = false) (hready : ¬ s.commandReady) (cmd len : Byte) :
    dsiRead cmd len s = s.cmdChecks.elim s.hold s.fail := by
  unfold dsiRead
  rw [hidle]
  cases hchecks : s.cmdChecks with
  | some c => rfl
  | none => simp [State.laneFree_of_not_ready hready hchecks]

/-- Settles O15, by the operation. -/
theorem commandTrafficChecks : Obligations.CommandTrafficChecks := by
  rintro s i (⟨cmd, params, rfl⟩ | ⟨⟨cmd, len, rfl⟩, hidle⟩) hready
  · rw [exec_dsiSend, dsiSend_of_not_ready hready, State.cmdChecks_elim]
    rfl
  · rw [exec_dsiRead, dsiRead_of_not_ready hidle hready, State.cmdChecks_elim]
    rfl

/-- Settles O16: each blocking operation looks at the handler first. -/
theorem blockingFaultsInHandler : Obligations.BlockingFaultsInHandler := by
  rintro s i hactive (⟨cmd, len, rfl⟩ | rfl | rfl)
  · rw [exec_dsiRead, dsiRead, if_pos hactive]
    rfl
  · rw [exec_dsiUlpsEnter, dsiUlpsEnter, if_pos hactive]
    rfl
  · rw [exec_dsiUlpsExit, dsiUlpsExit, if_pos hactive]
    rfl

end Sys2Proof.Machine
end

section
/-! R260 to R267: ULPS. -/

namespace Sys2Proof.Machine

theorem dsiUlpsEnter_of_entered {s : State} (hidle : s.isr.active = false) (hulps : s.link.ulps = .entered) :
    dsiUlpsEnter s = s.finish .ok := by
  simp [dsiUlpsEnter, hidle, hulps]

theorem dsiUlpsExit_of_exited {s : State} (hidle : s.isr.active = false) (hulps : s.link.ulps = .exited) :
    dsiUlpsExit s = s.finish .ok := by
  simp [dsiUlpsExit, hidle, hulps]

/-- The issue step of `dsi.ulps_enter` (R260). -/
theorem dsiUlpsEnter_of_ready {s : State} (hidle : s.isr.active = false) (hulps : s.link.ulps = .exited)
    (hready : s.dsiReady) (hlanes : s.lanesIdle) :
    dsiUlpsEnter s =
      { s with
        irq := { s.irq with status := s.irq.status &&& ~~~0x00001000#32 }
        link := { s.link with job := some .ulpsEnter, ulps := .entered }
        phase := .ulpsEntering s.now
        ret := .waiting } := by
  simp only [dsiUlpsEnter, hidle, hulps, s.ulpsChecks_eq_none.2 hready, s.laneFree_iff.2 hlanes, Bool.not_true,
    Bool.false_eq_true, reduceCtorEq, if_false, State.startJob_eq, Job.clears]

/-- The issue step of `dsi.ulps_exit` (R265). -/
theorem dsiUlpsExit_of_ready {s : State} (hidle : s.isr.active = false) (hulps : s.link.ulps = .entered)
    (hready : s.dsiReady) (hjob : s.link.job = none) :
    dsiUlpsExit s =
      { s with
        irq := { s.irq with status := s.irq.status &&& ~~~0x00001000#32 }
        link := { s.link with job := some .ulpsExit, ulps := .exited }
        phase := .ulpsExiting s.now
        ret := .waiting } := by
  simp only [dsiUlpsExit, hidle, hulps, s.ulpsChecks_eq_none.2 hready, hjob, Option.isSome_none,
    Bool.false_eq_true, reduceCtorEq, if_false, State.startJob_eq, Job.clears]

/-- Settles O17. -/
theorem ulpsOperationsIssue : Obligations.UlpsOperationsIssue := by
  refine ⟨fun s hidle hulps hready hlanes => ?_, fun s hidle hulps hready hjob => ?_, fun s hidle hulps => ?_,
    fun s hidle hulps => ?_⟩
  · rw [exec_dsiUlpsEnter, dsiUlpsEnter_of_ready hidle hulps hready hlanes]
  · rw [exec_dsiUlpsExit, dsiUlpsExit_of_ready hidle hulps hready hjob]
  · rw [exec_dsiUlpsEnter, dsiUlpsEnter_of_entered hidle hulps, State.finish]
  · rw [exec_dsiUlpsExit, dsiUlpsExit_of_exited hidle hulps, State.finish]

/-- `dsi.ulps_enter` when it cannot begin: the first fault that applies, else the hold (R232, R260). -/
theorem dsiUlpsEnter_of_not_ready {s : State} (hidle : s.isr.active = false) (hulps : s.link.ulps = .exited)
    (hready : ¬ (s.dsiReady ∧ s.lanesIdle)) : dsiUlpsEnter s = s.ulpsChecks.elim s.hold s.fail := by
  simp only [dsiUlpsEnter, hidle, hulps, Bool.false_eq_true, reduceCtorEq, if_false]
  cases hchecks : s.ulpsChecks with
  | some c => rfl
  | none =>
    have hbusy : s.laneFree = false :=
      Bool.eq_false_iff.2 fun hfree => hready ⟨s.ulpsChecks_eq_none.1 hchecks, s.laneFree_iff.1 hfree⟩
    simp [hbusy]

/-- `dsi.ulps_exit` when it cannot begin: the first fault that applies, else the hold (R232, R265). -/
theorem dsiUlpsExit_of_not_ready {s : State} (hidle : s.isr.active = false) (hulps : s.link.ulps = .entered)
    (hready : ¬ (s.dsiReady ∧ s.link.job = none)) : dsiUlpsExit s = s.ulpsChecks.elim s.hold s.fail := by
  simp only [dsiUlpsExit, hidle, hulps, Bool.false_eq_true, reduceCtorEq, if_false]
  cases hchecks : s.ulpsChecks with
  | some c => rfl
  | none =>
    have hbusy : s.link.job.isSome :=
      Option.isSome_iff_ne_none.2 fun hjob => hready ⟨s.ulpsChecks_eq_none.1 hchecks, hjob⟩
    simp [hbusy]

/-- Settles O18, by the operation. -/
theorem ulpsOperationsWait : Obligations.UlpsOperationsWait := by
  rintro s i hidle (⟨rfl, hulps, hready⟩ | ⟨rfl, hulps, hready⟩)
  · rw [exec_dsiUlpsEnter, dsiUlpsEnter_of_not_ready hidle hulps hready, State.ulpsChecks_elim]
    rfl
  · rw [exec_dsiUlpsExit, dsiUlpsExit_of_not_ready hidle hulps hready, State.ulpsChecks_elim]
    rfl

theorem hostStep_ulpsEntering {s : State} {t0 : Nat} (hidle : s.isr.active = false)
    (hphase : s.phase = .ulpsEntering t0) : hostStep s = .next (ulpsEnterWait t0 s) := by
  simp [hostStep, hidle, hphase]

theorem hostStep_ulpsExiting {s : State} {t0 : Nat} (hidle : s.isr.active = false)
    (hphase : s.phase = .ulpsExiting t0) : hostStep s = .next (ulpsExitWait t0 s) := by
  simp [hostStep, hidle, hphase]

/-- Settles O19: the HOST's step is the wait of its phase. -/
theorem ulpsWaitsEnd : Obligations.UlpsWaitsEnd := by
  intro s t0 hidle
  refine ⟨fun hphase => ?_, fun hphase => ?_⟩
  · rw [runChoice, hostStep_ulpsEntering hidle hphase]
    rfl
  · rw [runChoice, hostStep_ulpsExiting hidle hphase]
    rfl

end Sys2Proof.Machine
end

section
/-! R242 to R244: the panel's response. -/

namespace Sys2Proof.Machine

theorem runChoice_env (e : EnvEvent) (s : State) : runChoice (.env e) s = .next (envStep e s) := rfl

/-- The events of a response are enabled only while the bus is turned around (R242 to R244). -/
theorem envStep_of_not_bta {s : State} (hdata : s.link.data ≠ .bta) {e : EnvEvent}
    (he : (∃ b, e = .rxByte b) ∨ e = .rxEnd ∨ e = .rxTimeout ∨ e = .btaFail ∨ e = .rxError) : envStep e s = s := by
  rcases he with ⟨b, rfl⟩ | rfl | rfl | rfl | rfl <;> simp [envStep, envRxByte, envRxEnd, envRxFail, hdata]

/-- Settles O21. -/
theorem panelResponds : Obligations.PanelResponds := by
  intro s
  simp only [runChoice_env]
  refine ⟨fun hdata e he => by rw [envStep_of_not_bta hdata he], fun hdata => ⟨fun b => ?byte, ?done, ?failed⟩⟩
  case byte => simp only [envStep, envRxByte, hdata, true_and]
  case done =>
    rw [envStep, envRxEnd, if_pos hdata, State.setCause_eq]
    rfl
  case failed =>
    rintro e bit (⟨rfl, rfl⟩ | ⟨rfl, rfl⟩ | ⟨rfl, rfl⟩) <;>
    · rw [envStep, envRxFail, if_pos hdata, State.setCause_eq]
      rfl

end Sys2Proof.Machine
end

section
/-! R246, R247: the loop of a read. -/

namespace Sys2Proof.Machine

theorem hostStep_poll {s : State} {cmd len : Byte} {t0 : Nat} {buf : List Byte} (hidle : s.isr.active = false)
    (hphase : s.phase = .reading cmd len t0 buf .poll) : hostStep s = .next (readPoll cmd len t0 buf s) := by
  simp [hostStep, hidle, hphase]

/-- One poll, its conditions by bit of the status word (R246). -/
theorem readPoll_eq (cmd len : Byte) (t0 : Nat) (buf : List Byte) (s : State) :
    readPoll cmd len t0 buf s =
      (if s.irq.status.getLsbD 9 || s.irq.status.getLsbD 10 || s.irq.status.getLsbD 11 then
        { s with phase := .ready, ret := .returned (.rx .transport) }
      else if buf.length < 4 + len.toNat ∧ s.link.rxFifo ≠ [] then
        { s with
          link := { s.link with rxFifo := s.link.rxFifo.tail }
          phase := .reading cmd len t0 (buf ++ s.link.rxFifo.take 1) .poll }
      else if s.irq.status.getLsbD 13 then { s with phase := .reading cmd len t0 buf .drain }
      else if 1000 < s.now - t0 then { s with phase := .ready, ret := .returned (.rx .transport) }
      else s) := by
  simp only [readPoll, State.has, Cause.bit]
  refine if_congr Iff.rfl rfl ?_
  by_cases htake : buf.length < 4 + len.toNat ∧ s.link.rxFifo ≠ []
  · obtain ⟨b, rest, hfifo⟩ := List.exists_cons_of_ne_nil htake.2
    rw [if_pos htake.symm, if_pos htake, rxPop_of_cons hfifo, hfifo]
    rfl
  · have hmove : s.link.rxFifo = [] ∨ 4 + len.toNat ≤ buf.length := by
      by_cases hfifo : s.link.rxFifo = []
      · exact .inl hfifo
      · exact .inr (Nat.not_lt.1 fun hlt => htake ⟨hlt, hfifo⟩)
    rw [if_neg (fun h => htake h.symm), if_neg htake]
    exact if_congr (and_iff_left hmove) rfl rfl

/-- Settles O22. -/
theorem readPollFollowsRule : Obligations.ReadPollFollowsRule := by
  intro s cmd len t0 buf hidle hphase
  rw [runChoice, hostStep_poll hidle hphase, readPoll_eq]

/-- A run whose first step has a next state goes on from there. -/
theorem run_succ_of_step {s u : State} (h : step s = .next u) (k : Nat) :
    Host.Core.run Sys2Proof.core (k + 1) s = Host.Core.run Sys2Proof.core k u := by
  have hstep : Sys2Proof.core.step s = .next u := h
  simp only [Host.Core.run, hstep]

/-- With an empty schedule the HOST steps, and the schedule stays empty (log entry 4). -/
theorem step_of_empty_schedule {s : State} (hfault : s.faulted = none) (hsched : s.sched = []) :
    step s = hostStep s := by
  have hpop : s.popChoice = s := by
    rw [State.popChoice, hsched]
    exact congrArg (fun c => { s with sched := c }) hsched.symm
  rw [step_eq, hfault, hpop]
  simp [nextChoice, hsched, runChoice]

/-- A read in its drain is back at `Ready` in one HOST step (R247). -/
theorem drain_returns {s : State} {cmd len : Byte} {t0 : Nat} {buf : List Byte} (hfault : s.faulted = none)
    (hsched : s.sched = []) (hidle : s.isr.active = false) (hphase : s.phase = .reading cmd len t0 buf .drain) :
    ∃ t, Host.Core.run Sys2Proof.core 1 s = .next t ∧ t.phase = .ready ∧ ∃ r, t.ret = .returned (.rx r) := by
  have hstep : step s = .next (readDrain len buf s) := by
    rw [step_of_empty_schedule hfault hsched, hostStep_drain hidle hphase]
  exact ⟨_, run_succ_of_step hstep 0, rfl, _, rfl⟩

/-- A read past its bound that still polls is back at `Ready` within two HOST steps more than the FIFO holds bytes: each
poll ends it, or takes a byte, or moves on to the drain (R246). -/
theorem poll_returns {n : Nat} {s : State} {cmd len : Byte} {t0 : Nat} {buf : List Byte} (hn : s.link.rxFifo.length = n)
    (hfault : s.faulted = none) (hsched : s.sched = []) (hidle : s.isr.active = false)
    (hphase : s.phase = .reading cmd len t0 buf .poll) (hbound : 1000 < s.now - t0) :
    ∃ k t, k ≤ n + 2 ∧ Host.Core.run Sys2Proof.core k s = .next t ∧ t.phase = .ready
      ∧ ∃ r, t.ret = .returned (.rx r) := by
  induction n generalizing s buf with
  | zero =>
    have hstep : step s = .next (readPoll cmd len t0 buf s) := by
      rw [step_of_empty_schedule hfault hsched, hostStep_poll hidle hphase]
    rw [readPoll_eq, if_neg (c := _ ∧ _) (by simp [List.length_eq_zero_iff.1 hn]), if_pos hbound] at hstep
    split_ifs at hstep
    · exact ⟨1, _, by omega, run_succ_of_step hstep 0, rfl, _, rfl⟩
    · obtain ⟨t, hrun, hready⟩ := drain_returns (s := { s with phase := .reading cmd len t0 buf .drain }) hfault hsched
        hidle rfl
      exact ⟨2, t, by omega, by rw [run_succ_of_step hstep 1, hrun], hready⟩
    · exact ⟨1, _, by omega, run_succ_of_step hstep 0, rfl, _, rfl⟩
  | succ n ih =>
    have hstep : step s = .next (readPoll cmd len t0 buf s) := by
      rw [step_of_empty_schedule hfault hsched, hostStep_poll hidle hphase]
    rw [readPoll_eq, if_pos hbound] at hstep
    split_ifs at hstep with herror htake
    · exact ⟨1, _, by omega, run_succ_of_step hstep 0, rfl, _, rfl⟩
    · obtain ⟨k, t, hk, hrun, hready⟩ := ih (s := { s with
          link := { s.link with rxFifo := s.link.rxFifo.tail }
          phase := .reading cmd len t0 (buf ++ s.link.rxFifo.take 1) .poll })
        (by simp [hn]) hfault hsched hidle rfl hbound
      exact ⟨k + 1, t, by omega, by rw [run_succ_of_step hstep k, hrun], hready⟩
    · obtain ⟨t, hrun, hready⟩ := drain_returns (s := { s with phase := .reading cmd len t0 buf .drain }) hfault hsched
        hidle rfl
      exact ⟨2, t, by omega, by rw [run_succ_of_step hstep 1, hrun], hready⟩
    · exact ⟨1, _, by omega, run_succ_of_step hstep 0, rfl, _, rfl⟩

/-- Settles O25, by the stage of the read: `poll_returns` is an induction on the bytes in the FIFO. -/
theorem readReturnsOnceBoundPassed : Obligations.ReadReturnsOnceBoundPassed := by
  intro s cmd len t0 buf stage hfault hsched hidle hphase hbound
  cases stage with
  | poll => exact poll_returns rfl hfault hsched hidle hphase hbound
  | drain =>
    obtain ⟨t, hrun, hready⟩ := drain_returns hfault hsched hidle hphase
    exact ⟨1, t, by omega, hrun, hready⟩

end Sys2Proof.Machine
end

section
/-! R275, R276: sleep and wake-up. -/

namespace Sys2Proof.Machine

/-- Settles O27: both operations are their rules, with `job ≠ none` for a pending job. -/
theorem sleepAndWakeup : Obligations.SleepAndWakeup := by
  intro s
  rw [exec_dsiSleep, exec_dsiWakeup]
  exact ⟨congrArg _ (if_congr Iff.rfl rfl (if_congr (or_congr Option.isSome_iff_ne_none Iff.rfl) rfl rfl)), rfl⟩

end Sys2Proof.Machine
end

section
/-! R175: what each host operation of the timing and layer families runs. -/

namespace Sys2Proof.Machine

theorem exec_lcdcSetTiming (t : TimingCounts) (s : State) : exec (.lcdcSetTiming t) s = .next (setTiming t s) := rfl

theorem exec_lcdcSetModeDefaults (s : State) : exec .lcdcSetModeDefaults s = .next (setModeDefaults s) := rfl

theorem exec_lcdcSetFormat (l : Layer) (tag : BitVec 16) (s : State) :
    exec (.lcdcSetFormat l tag) s = .next (setFormat l tag s) := rfl

theorem exec_lcdcWriteAddr (l : Layer) (c : Channel) (a : Word) (s : State) :
    exec (.lcdcWriteAddr l c a) s = .next (writeAddr l c a s) := rfl

theorem exec_lcdcEnable (l : Layer) (on : Bool) (s : State) :
    exec (.lcdcEnable l on) s = .next (enableLayer l on s) := rfl

theorem exec_lcdcReadFormat (l : Layer) (s : State) : exec (.lcdcReadFormat l) s = .next (readFormat l s) := rfl

end Sys2Proof.Machine
end

section
/-! R320 to R322: panel timing. -/

namespace Sys2Proof.Machine

/-- With the DSI configured, its mode set and no frame in flight, the timing fields are written (R320). -/
theorem setTiming_of_enabled {s : State} {mode : DisplayMode} (hconf : s.dsi.configured = true)
    (hfsm : s.frame.fsm ≠ .scanning) (hmode : s.dsi.mode = some mode) (t : TimingCounts) :
    setTiming t s = State.finish { s with tim := timWritten t mode } .ok := by
  simp [setTiming, hconf, hfsm, hmode]

/-- A frame in flight bars the timing operation, before the mode is looked at (R320). -/
theorem setTiming_of_scanning {s : State} (hconf : s.dsi.configured = true) (hfsm : s.frame.fsm = .scanning)
    (t : TimingCounts) : setTiming t s = s.fail .timingWhileScanning := by
  simp [setTiming, hconf, hfsm]

/-- The mode's defaults are its timing operation (R322). -/
theorem setModeDefaults_of_mode {s : State} {mode : DisplayMode} (hconf : s.dsi.configured = true)
    (hmode : s.dsi.mode = some mode) : setModeDefaults s = setTiming (Config.defaultTiming mode) s := by
  simp [setModeDefaults, hconf, hmode]

/-- Settles O28. -/
theorem setTimingWritesCounts : Obligations.SetTimingWritesCounts := by
  intro s mode hconf hfsm hmode
  simp only [exec_lcdcSetTiming, exec_lcdcSetModeDefaults, setModeDefaults_of_mode hconf hmode,
    setTiming_of_enabled hconf hfsm hmode]
  refine ⟨fun t => ?_, trivial, _, rfl, rfl, rfl⟩
  have hpixels : smartPixels (timOperands t)
      = BitVec.ofNat 24 ((t.hActive.toNat % 4096) * (t.vActive.toNat % 4096)) := by
    simp [smartPixels, timOperands, timOperand, Config.wTim, Config.wSpc]
  simp only [timWritten, hpixels]
  rfl

/-- Settles O29, by the operation. -/
theorem timingOperationsFault : Obligations.TimingOperationsFault := by
  rintro s i (⟨t, rfl⟩ | rfl)
  · rw [exec_lcdcSetTiming]
    refine ⟨fun hconf => ?_, fun hconf _ hfsm => ?_⟩
    · simp [setTiming, hconf, State.fail, State.raise]
    · rw [setTiming_of_scanning hconf hfsm]
      rfl
  · rw [exec_lcdcSetModeDefaults]
    refine ⟨fun hconf => ?_, fun hconf hmode hfsm => ?_⟩
    · simp [setModeDefaults, hconf, State.fail, State.raise]
    · obtain ⟨mode, hmode⟩ := Option.ne_none_iff_exists'.1 hmode
      rw [setModeDefaults_of_mode hconf hmode, setTiming_of_scanning hconf hfsm]
      rfl

end Sys2Proof.Machine
end

section
/-! R340 to R358: the layer family. -/

namespace Sys2Proof.Machine

theorem LayerState.touch_eq (L : LayerState) :
    L.touch = { L with phase := if L.phase = .disabled then .configuring else L.phase } := by
  unfold LayerState.touch
  split <;> rfl

/-- A register write of a layer: the shadow and the touch (R341). -/
theorem State.writeShadow_eq (s : State) (l : Layer) (f : LayerCfg → LayerCfg) :
    s.writeShadow l f =
      { s with
        layers := s.layers.set l
          { s.layers.get l with
            sh := f (s.layers.get l).sh
            phase := if (s.layers.get l).phase = .disabled then .configuring else (s.layers.get l).phase } } := by
  simp only [State.writeShadow, State.putLayer, LayerState.touch_eq]

theorem formatOperand_of_lt {l : Layer} {tag : BitVec 16} (h : tag.toNat < 67) :
    formatOperand l tag = Config.formatCode l tag.toNat := if_pos h

theorem formatOperand_eq_none {l : Layer} {tag : BitVec 16} (h : 67 ≤ tag.toNat ∨ Config.formatCode l tag.toNat = none) :
    formatOperand l tag = none := by
  rcases h with h | h
  · exact if_neg (Nat.not_lt.2 h)
  · rw [formatOperand, h, ite_self]

/-- Settles O30. -/
theorem setFormatAndReadback : Obligations.SetFormatAndReadback := by
  intro s l tag
  simp only [exec_lcdcSetFormat, exec_lcdcReadFormat]
  refine ⟨fun code htag hcode => ?_, fun hnone => ?_, fun code hfmt => ?_, fun hfmt => ?_⟩
  · rw [setFormat, formatOperand_of_lt htag, hcode]
    simp only [State.writeShadow_eq, State.finish]
  · rw [setFormat, formatOperand_eq_none hnone]
    rfl
  · rw [readFormat, hfmt]
    rfl
  · rw [readFormat, hfmt]
    rfl

/-- The function of the shadow configuration by which a register write of one layer works, for the operations that are
nothing else (R343 to R349). -/
theorem exec_shadow_write (s : State) (l : Layer) :
    (∀ mode alpha, l = .fg ∨ l = .bg → exec (.lcdcSetBlend l mode alpha) s
        = .next ((s.writeShadow l fun c => { c with blend := mode, alpha := alpha }).finish .ok))
    ∧ (∀ m r ra, exec (.lcdcSetCkey l m r ra) s = .next ((s.writeShadow l fun c =>
        { c with ckMatch := rgbOperand m, ckRep := rgbOperand r, ckAlpha := ra }).finish .ok))
    ∧ (∀ alpha, exec (.lcdcSetCkeyAlpha l alpha) s
        = .next ((s.writeShadow l fun c => { c with ckAlpha := alpha }).finish .ok))
    ∧ (∀ p sz z, exec (.lcdcSetGeometry l p sz z) s = .next ((s.writeShadow l fun c =>
        { c with pos := geoOperand p, size := geoOperand sz, zoom := geoOperand z }).finish .ok))
    ∧ (∀ pitch, exec (.lcdcSetPitch l pitch) s
        = .next ((s.writeShadow l fun c => { c with pitch := pitch }).finish .ok))
    ∧ ∀ on, exec (.lcdcSetVmirror l on) s
        = .next ((s.writeShadow l fun c => { c with vmirror := on }).finish .ok) := by
  refine ⟨?_, fun _ _ _ => rfl, fun _ => rfl, fun _ _ _ => rfl, fun pitch => ?_, fun _ => rfl⟩
  · rintro mode alpha (rfl | rfl) <;> rfl
  · have hpitch : pitch.setWidth Config.wPitch = pitch := BitVec.setWidth_eq pitch
    conv_rhs => rw [← hpitch]
    rfl

/-- Settles O31: each operation is a register write of the shadow, by its own function of the old one. -/
theorem shadowWrites : Obligations.ShadowWrites := by
  refine ⟨?write, ?none⟩
  case write =>
    rintro s l i old sh rfl hi
    obtain ⟨hblend, hckey, hckeyAlpha, hgeometry, hpitch, hvmirror⟩ := exec_shadow_write s l
    rcases hi with ⟨mode, alpha, rfl, hl, rfl⟩ | ⟨m, r, ra, rfl, rfl⟩ | ⟨alpha, rfl, rfl⟩ | ⟨p, sz, z, rfl, rfl⟩ |
      ⟨pitch, rfl, rfl⟩ | ⟨on, rfl, rfl⟩
    · rw [hblend mode alpha hl, State.writeShadow_eq, State.finish]
    · rw [hckey, State.writeShadow_eq]
      rfl
    · rw [hckeyAlpha, State.writeShadow_eq, State.finish]
    · rw [hgeometry, State.writeShadow_eq]
      rfl
    · rw [hpitch, State.writeShadow_eq, State.finish]
    · rw [hvmirror, State.writeShadow_eq, State.finish]
  case none =>
    rintro s l mode alpha (rfl | rfl) <;> rfl

/-- The race mark of an address write: the layer is corrupt if the frame scans that channel for it (R350, R353). -/
theorem Scan.addrWritten_eq (sc : Scan) (l : Layer) (c : Channel) :
    sc.addrWritten l c =
      { sc with corrupt :=
          if (sc.layers.get l).map (fun e => e.ch) = some c then sc.corrupt.set l true else sc.corrupt } := by
  unfold Scan.addrWritten
  cases sc.layers.get l with
  | none => rfl
  | some e => by_cases hch : e.ch = c <;> simp [hch]

/-- A valid address is installed (R350). -/
theorem writeAddr_of_valid {s : State} {a : Word} (h : validAddress s.windows a) (l : Layer) (c : Channel) :
    writeAddr l c a s =
      { s with
        frame := { s.frame with scan := s.frame.scan.map (fun sc => sc.addrWritten l c) }
        layers := s.layers.set l ((s.layers.get l).putAddr c a).touch
        ret := .returned .ok } := by
  obtain ⟨hmem, halign⟩ := h
  simp [writeAddr, hmem, Config.fbAlign, halign, State.putLayer, State.finish]

/-- Settles O32. -/
theorem writeAddrInstalls : Obligations.WriteAddrInstalls := by
  intro s l c a
  simp only [exec_lcdcWriteAddr]
  refine ⟨fun hvalid => ?valid, fun hmem => ?outside, fun hmem halign => ?misaligned⟩
  case valid =>
    rw [writeAddr_of_valid hvalid]
    refine ⟨_, rfl, rfl, by simp, fun c' hc' => by simp [hc'], ?_, fun l' hl' => by simp [hl'], ?_⟩
    · cases c <;> simp [LayerState.putAddr, LayerState.touch_eq]
    · simp only [Scan.addrWritten_eq]
  case outside => simp [writeAddr, hmem, State.fail, State.raise]
  case misaligned => simp [writeAddr, hmem, Config.fbAlign, halign, State.fail, State.raise]

/-- Settles O33. -/
theorem layerEnableAndDisable : Obligations.LayerEnableAndDisable := by
  intro s l
  simp only [exec_lcdcEnable]
  refine ⟨fun htim hfmt => ?_, ?_, fun htim => ?_, fun htim hfmt => ?_⟩
  · simp [enableLayer, htim, hfmt, LayerState.setEnable, State.putLayer, State.finish]
  · simp [enableLayer, LayerState.setEnable, State.putLayer, State.finish]
  · simp [enableLayer, htim, State.fail, State.raise]
  · simp [enableLayer, htim, hfmt, State.fail, State.raise]

end Sys2Proof.Machine
end

section
/-! R422, R423: the callback registrations. -/

namespace Sys2Proof.Machine

/-- Settles O43: both registrations are their rules. -/
theorem callbacksRegister : Obligations.CallbacksRegister :=
  fun _ _ _ => ⟨rfl, rfl⟩

end Sys2Proof.Machine
end

section
/-! R175: what each host operation of the frame family runs. -/

namespace Sys2Proof.Machine

theorem exec_lcdcStart (s : State) : exec .lcdcStart s = .next (startFrame s) := rfl

theorem exec_lcdcArmTe (s : State) : exec .lcdcArmTe s = .next (armTe s) := rfl

theorem exec_lcdcTeTrigger (s : State) : exec .lcdcTeTrigger s = .next (s.tePulse.finish .ok) := rfl

theorem exec_lcdcReset (s : State) : exec .lcdcReset s = .next (panelReset s) := rfl

theorem runChoice_scan (s : State) : runChoice .scan s = .next (scanStep s) := rfl

end Sys2Proof.Machine
end

section
/-! R401 to R403, R410: the triggers. -/

namespace Sys2Proof.Machine

/-- From `Idle` and `FrameDone` a start arms by the arm mode (R401). -/
theorem startFrame_of_rest {s : State} (h : s.frame.fsm = .idle ∨ s.frame.fsm = .frameDone) :
    startFrame s =
      if s.frame.arm = .software then
        { s with frame := { s.frame with valid := true, fsm := .armedSoftware }, ret := .returned .ok }
      else { s with frame := { s.frame with fsm := .armedHardwareTE }, ret := .returned .ok } := by
  rcases h with h | h <;> (unfold startFrame; rw [h]; cases s.frame.arm <;> rfl)

/-- The choice of TE mode (R402). -/
theorem armTe_eq (s : State) :
    armTe s =
      { s with
        frame :=
          if s.frame.fsm = .idle ∨ s.frame.fsm = .frameDone ∨ s.frame.fsm = .armedSoftware then
            { s.frame with arm := .te, valid := false, fsm := .armedHardwareTE }
          else { s.frame with arm := .te }
        ret := .returned .ok } := by
  unfold armTe
  split_ifs <;> rfl

/-- Settles O36. -/
theorem triggersArmFrames : Obligations.TriggersArmFrames := by
  intro s
  rw [exec_lcdcStart, exec_lcdcArmTe, exec_lcdcTeTrigger, armTe_eq, State.tePulse_eq]
  refine ⟨?start, rfl, rfl, fun pol => ?edge⟩
  case start =>
    cases hfsm : s.frame.fsm with
    | idle => rw [startFrame_of_rest (.inl hfsm)]
    | frameDone => rw [startFrame_of_rest (.inr hfsm)]
    | _ =>
      rw [startFrame, hfsm]
      rfl
  case edge =>
    rw [runChoice_env, envStep, envTeEdge]
    exact congrArg _ (if_congr Iff.rfl s.tePulse_eq rfl)

end Sys2Proof.Machine
end

section
/-! Equality of states, field by field. -/

namespace Sys2Proof.Machine

theorem State.ext_fields {s t : State} (hdsi : s.dsi = t.dsi) (hlink : s.link = t.link) (hirq : s.irq = t.irq)
    (htim : s.tim = t.tim) (hlayers : s.layers = t.layers) (hframe : s.frame = t.frame) (hcb : s.cb = t.cb)
    (hphase : s.phase = t.phase) (hisr : s.isr = t.isr) (hnow : s.now = t.now) (hfaulted : s.faulted = t.faulted)
    (hlogs : s.logs = t.logs) (hmem : s.mem = t.mem) (hprog : s.prog = t.prog) (hwindows : s.windows = t.windows)
    (hsched : s.sched = t.sched) (hdraws : s.draws = t.draws) (hret : s.ret = t.ret) : s = t := by
  cases s
  cases t
  simp only [State.mk.injEq]
  exact ⟨hdsi, hlink, hirq, htim, hlayers, hframe, hcb, hphase, hisr, hnow, hfaulted, hlogs, hmem, hprog, hwindows,
    hsched, hdraws, hret⟩

end Sys2Proof.Machine
end

section
/-! R80, R91, R142, R405: the scan set and the begin of a frame. -/

namespace Sys2Proof.Machine

@[simp] theorem State.latch_get (s : State) (l : Layer) :
    s.latch.layers.get l = { s.layers.get l with act := some (s.layers.get l).sh } :=
  PerLayer.get_tabulate _ l

/-- The scan set is there exactly when each layer's place in it is (R405). -/
theorem scanSet_ok {s : State} {ls : PerLayer (Option ScanEntry)} (h : scanSet s = .ok ls) (l : Layer) :
    scanEntry (s.layers.get l) s.mem = .ok (ls.get l) := by
  unfold scanSet at h
  split at h <;> cases h
  cases l <;> assumption

theorem scanSet_of_entries {s : State} {ls : PerLayer (Option ScanEntry)}
    (h : ∀ l, scanEntry (s.layers.get l) s.mem = .ok (ls.get l)) : scanSet s = .ok ls := by
  have hf := h .fg
  have hb := h .bg
  have hw := h .wb
  have hp := h .sp
  simp only [PerLayer.get] at hf hb hw hp
  simp only [scanSet, hf, hb, hw, hp]

/-- One layer's missing address is enough to fault the scan set (R405). -/
theorem scanSet_error {s : State} {l : Layer} (h : scanEntry (s.layers.get l) s.mem = .error .unsetRead) :
    scanSet s = .error .unsetRead := by
  have hcode : ∀ L c, scanEntry L s.mem = .error c → c = .unsetRead := by
    intro L c hc
    unfold scanEntry at hc
    (repeat' split at hc) <;> cases hc
    rfl
  cases hset : scanSet s with
  | ok ls =>
    rw [scanSet_ok hset l] at h
    cases h
  | error c =>
    unfold scanSet at hset
    split at hset
    case h_1 => cases hset
    all_goals
      cases hset
      exact congrArg Except.error (hcode _ _ (by assumption))

/-- A layer's place in the scan set once its shadow is latched (R80, R405). -/
theorem scanEntry_latched (L : LayerState) (mem : Memory) :
    scanEntry { L with act := some L.sh } mem =
      if L.sh.en then
        (L.addr L.cur).elim (.error .unsetRead) fun a =>
          .ok (some
            { ch := L.cur, addr := a
              bytes := mem.slice a.toNat (a.toNat + L.sh.pitch.toNat * L.sh.size.snd.toNat) })
      else .ok none := by
  have haddr : ({ L with act := some L.sh } : LayerState).addr L.cur = L.addr L.cur := by cases L.cur <;> rfl
  simp only [scanEntry, LayerState.actEn, LayerState.region, haddr]
  cases L.addr L.cur <;> rfl

end Sys2Proof.Machine
end

section
/-! R405: what a SCAN step outside a frame does. -/

namespace Sys2Proof.Machine

/-- An armed frame whose trigger is pending begins, if its checks pass (R405). -/
theorem scanStep_of_armed {s : State} (hfsm : s.frame.fsm = .armedSoftware ∨ s.frame.fsm = .armedHardwareTE)
    (hvalid : s.frame.valid = true) : scanStep s = frameBegin s := by
  rcases hfsm with hfsm | hfsm <;> simp [scanStep, hfsm, hvalid]

theorem scanStep_of_rest {s : State} (h : s.frame.fsm = .idle ∨ s.frame.fsm = .frameDone ∨ ∃ k, s.frame.fsm = .error k) :
    scanStep s = s := by
  rcases h with h | h | ⟨k, h⟩ <;> simp [scanStep, h]

theorem scanStep_of_not_valid {s : State} (hfsm : s.frame.fsm ≠ .scanning) (hvalid : s.frame.valid = false) :
    scanStep s = s := by
  cases h : s.frame.fsm <;> simp_all [scanStep]

theorem scanStep_of_scanning {s : State} {sc : Scan} (hfsm : s.frame.fsm = .scanning) (hscan : s.frame.scan = some sc) :
    scanStep s = frameEnd sc s := by
  simp only [scanStep, hfsm, hscan]

/-- A triggered frame waits for the lanes (R405). -/
theorem frameBegin_of_busy {s : State} (h : ¬ s.lanesIdle) : frameBegin s = s := by
  refine if_pos ?_
  by_cases hjob : s.link.job = none
  · exact .inr fun hdata => h ⟨hjob, hdata⟩
  · exact .inl (Option.isSome_iff_ne_none.2 hjob)

section Checks

variable {s : State} (hlanes : s.lanesIdle)
include hlanes

theorem frameBegin_of_not_configured (hconf : s.dsi.configured = false) : frameBegin s = s.raise .notConfigured := by
  obtain ⟨hjob, hdata⟩ := hlanes
  simp [frameBegin, hjob, hdata, hconf]

theorem frameBegin_of_link_not_ready (hconf : s.dsi.configured = true)
    (hready : ¬ (s.dsiReady ∧ s.link.ulps = .exited)) : frameBegin s = s.raise .linkNotReady := by
  obtain ⟨hjob, hdata⟩ := hlanes
  have hcheck : s.dsi.power = .off ∨ s.link.ulps = .entered ∨ s.settled = false := by
    by_contra hnone
    push Not at hnone
    obtain ⟨hpower, hulps, hsettled⟩ := hnone
    exact hready ⟨⟨hconf, (Power.ne_off_iff _).1 hpower, by simpa using hsettled⟩, (UlpsLatch.ne_entered_iff _).1 hulps⟩
  rw [frameBegin, if_neg (by simp [hjob, hdata]), if_neg (by simp [hconf]), if_pos hcheck]

variable (hready : s.dsiReady) (hulps : s.link.ulps = .exited)
include hready hulps

theorem frameBegin_of_timing_not_set (htim : s.tim.set = false) : frameBegin s = s.raise .timingNotSet := by
  obtain ⟨hjob, hdata⟩ := hlanes
  obtain ⟨hconf, hpower, hsettled⟩ := hready
  simp [frameBegin, hjob, hdata, hconf, hpower, hsettled, hulps, htim]

variable (htim : s.tim.set = true) {mode : DisplayMode} (hmode : s.dsi.mode = some mode)
include htim hmode

theorem frameBegin_of_scanSet_error {c : FaultCode} (hset : scanSet s.latch = .error c) :
    frameBegin s = s.latch.raise c := by
  obtain ⟨hjob, hdata⟩ := hlanes
  obtain ⟨hconf, hpower, hsettled⟩ := hready
  simp [frameBegin, hjob, hdata, hconf, hpower, hsettled, hulps, htim, hmode, hset]

theorem frameBegin_of_scanSet_ok {ls : PerLayer (Option ScanEntry)} (hset : scanSet s.latch = .ok ls) :
    frameBegin s = beginScan mode ls s.latch := by
  obtain ⟨hjob, hdata⟩ := hlanes
  obtain ⟨hconf, hpower, hsettled⟩ := hready
  simp [frameBegin, hjob, hdata, hconf, hpower, hsettled, hulps, htim, hmode, hset]

end Checks

/-- Settles O38: each check of R405 in its order; the last fault is that of the first layer without an address. -/
theorem frameBeginWaitsOrFaults : Obligations.FrameBeginWaitsOrFaults := by
  intro s
  simp only [runChoice_scan]
  refine ⟨fun hrest => by rw [scanStep_of_rest hrest],
    fun hfsm hvalid => by rw [scanStep_of_not_valid hfsm hvalid], fun hfsm hvalid => ?armed⟩
  rw [scanStep_of_armed hfsm hvalid]
  refine ⟨fun hbusy => ?_, fun hlanes hconf => ?_, fun hlanes hconf hready => ?_,
    fun hlanes hready hulps htim => ?_, fun hlanes hready hulps htim hmode hlayer => ?noAddress⟩
  · rw [frameBegin_of_busy hbusy]
  · rw [frameBegin_of_not_configured hlanes hconf, State.raise]
  · rw [frameBegin_of_link_not_ready hlanes hconf hready, State.raise]
  · rw [frameBegin_of_timing_not_set hlanes hready hulps htim, State.raise]
  case noAddress =>
    obtain ⟨l, hen, haddr⟩ := hlayer
    obtain ⟨mode, hmode⟩ := Option.ne_none_iff_exists'.1 hmode
    have hentry : scanEntry (s.latch.layers.get l) s.latch.mem = .error .unsetRead := by
      rw [State.latch_get, scanEntry_latched, if_pos hen, haddr, Option.elim_none]
    exact ⟨_, rfl, by
      rw [frameBegin_of_scanSet_error hlanes hready hulps htim hmode (scanSet_error hentry)]
      rfl⟩

end Sys2Proof.Machine
end

section
/-! R142 to R144: the regions of a frame depend on the active configurations alone. -/

namespace Sys2Proof.Machine

theorem LayerState.region_congr {L L' : LayerState} (h : L'.act = L.act) (a : Word) : L'.region a = L.region a := by
  rw [LayerState.region, LayerState.region, h]

theorem State.scans_congr {s t : State} (h : ∀ l, (t.layers.get l).act = (s.layers.get l).act) (sc : Scan) (l : Layer)
    (a : Nat) : t.scans sc l a = s.scans sc l a := by
  unfold State.scans
  cases sc.layers.get l with
  | none => rfl
  | some e => simp only [LayerState.region_congr (h l)]

theorem FrameRecord.Reports.congr {s t : State} {sc : Scan} {o : FrameOutcome} {r : FrameRecord}
    (hr : r.Reports t sc o) (h : ∀ l, (t.layers.get l).act = (s.layers.get l).act) : r.Reports s sc o := by
  refine { hr with layers := fun l => ?_ }
  rw [hr.layers l, h l]

end Sys2Proof.Machine
end

section
/-! R405: the begin of a frame. -/

namespace Sys2Proof.Machine

/-- The state right after a frame begin: VSYNC is recorded, the transmission is on the wire, the lanes carry the frame
(R405, R280). -/
theorem beginScan_eq (mode : DisplayMode) (ls : PerLayer (Option ScanEntry)) (s : State) :
    beginScan mode ls s =
      { s with
        frame := { s.frame with
          scan := some (Scan.start s.logs.frames.length mode s.tim ls), valid := false, fsm := .scanning }
        link := { s.link with data := .hsFrame, clk := .hs }
        irq := { s.irq with status := s.irq.status ||| 0x00000010#32 }
        logs := { s.logs with wire := s.logs.wire ++ [.txHs s.logs.frames.length] }
        mem := (beginScan mode ls s).mem } := by
  apply State.ext_fields <;> simp [beginScan, State.setCause_eq, Cause.bit]

/-- What a read gives after a frame begin: WB's region is not known any more (R144). -/
theorem beginScan_read (mode : DisplayMode) (ls : PerLayer (Option ScanEntry)) (s : State) (a : Nat) :
    (beginScan mode ls s).mem.read a =
      if s.scans (Scan.start s.logs.frames.length mode s.tim ls) .wb a then none else s.mem.read a := by
  simp only [beginScan, State.enterScan_mem, State.forgetWb_read]
  rfl

/-- The scan set of a frame about to begin, when every enabled layer has an address (R91, R405). -/
def State.nextScanSet (s : State) : PerLayer (Option ScanEntry) :=
  PerLayer.tabulate fun l =>
    if (s.layers.get l).sh.en then
      ((s.layers.get l).addr (s.layers.get l).cur).map fun a =>
        { ch := (s.layers.get l).cur, addr := a
          bytes := s.mem.slice a.toNat
            (a.toNat + (s.layers.get l).sh.pitch.toNat * (s.layers.get l).sh.size.snd.toNat) }
    else none

theorem scanSet_latch {s : State}
    (haddr : ∀ l, (s.layers.get l).sh.en = true → (s.layers.get l).addr (s.layers.get l).cur ≠ none) :
    scanSet s.latch = .ok s.nextScanSet := by
  refine scanSet_of_entries fun l => ?_
  rw [State.latch_get, scanEntry_latched, State.nextScanSet, PerLayer.get_tabulate, State.latch_mem]
  cases hen : (s.layers.get l).sh.en with
  | false => rfl
  | true =>
    obtain ⟨a, ha⟩ := Option.ne_none_iff_exists'.1 (haddr l hen)
    rw [ha]
    rfl

/-- Settles O37: the frame of `State.nextScanSet` begins. -/
theorem frameBeginsScan : Obligations.FrameBeginsScan := by
  intro s mode hvalid hfsm hlanes hready hulps htim hmode haddr
  have hbegin := frameBegin_of_scanSet_ok hlanes hready hulps htim hmode (scanSet_latch haddr)
  refine ⟨beginScan mode s.nextScanSet s.latch, Scan.start s.logs.frames.length mode s.tim s.nextScanSet,
    by rw [runChoice_scan, scanStep_of_armed hfsm hvalid, hbegin], by apply State.ext_fields <;> simp,
    fun l => by simp, ?frame, ⟨rfl, rfl, rfl, rfl, rfl, rfl⟩, fun l hen => ?off, fun l a hen ha => ?on, ?irq, ?link,
    ?logs, fun a => ?mem⟩
  case off => simp [Scan.start, State.nextScanSet, hen]
  case on => simp [Scan.start, State.nextScanSet, hen, ha]
  case mem =>
    rw [beginScan_read, State.scans_congr (s := s.latch) (t := beginScan _ _ _) (by simp)]
    rfl
  all_goals
    rw [beginScan_eq]
    rfl

end Sys2Proof.Machine
end

section
/-! R407, R408: the end of a frame. -/

namespace Sys2Proof.Machine

/-- The record made at a frame's end looks at the active configurations alone, so it reports what it would of any state
with the same ones (R408). -/
theorem State.frameRecord_reports_of_act {s t : State} (h : ∀ l, (t.layers.get l).act = (s.layers.get l).act)
    (sc : Scan) (o : FrameOutcome) : (t.frameRecord sc o).Reports s sc o :=
  (t.frameRecord_reports sc o).congr h

theorem State.closeFrame_eq (s : State) (sc : Scan) (o : FrameOutcome) :
    s.closeFrame sc o =
      { s with
        logs := { s.logs with frames := s.logs.frames ++ [s.frameRecord sc o] }
        frame := { s.frame with scan := none }
        mem := (s.forgetWb sc).mem } := by
  apply State.ext_fields <;> simp

/-- Frame end for one layer records its two status bits (R407). -/
theorem completeLayer_irq (sc : Scan) (l : Layer) (s : State) :
    (completeLayer sc l s).irq =
      { s.irq with
        status := (sc.layers.get l).elim s.irq.status fun e =>
          putBit (putBit s.irq.status (layerNo l) true) (16 + layerNo l) (channelBit e.ch) } := by
  unfold completeLayer
  cases sc.layers.get l <;> rfl

theorem getLsbD_completeLayer (sc : Scan) (l : Layer) (s : State) (j : Nat) :
    (completeLayer sc l s).irq.status.getLsbD j =
      (sc.layers.get l).elim (s.irq.status.getLsbD j) fun e =>
        if j = 16 + layerNo l then channelBit e.ch else if j = layerNo l then true else s.irq.status.getLsbD j := by
  have hl := layerNo_lt l
  rw [completeLayer_irq]
  cases sc.layers.get l with
  | none => rfl
  | some e =>
    simp only [Option.elim_some]
    rw [getLsbD_putBit _ _ _ _ (by omega), getLsbD_putBit _ _ _ _ (by omega)]

/-- Frame end records, of the bits outside frame-done and its channels, none (R407). -/
theorem getLsbD_completeLayers_other (sc : Scan) (s : State) {j : Nat} (hj : 4 ≤ j ∧ j < 16 ∨ 20 ≤ j) :
    (completeLayers sc s).irq.status.getLsbD j = s.irq.status.getLsbD j := by
  have hkeep : ∀ l t, (completeLayer sc l t).irq.status.getLsbD j = t.irq.status.getLsbD j := by
    intro l t
    have hl := layerNo_lt l
    rw [getLsbD_completeLayer]
    cases sc.layers.get l with
    | none => rfl
    | some e => rw [Option.elim_some, if_neg (by omega), if_neg (by omega)]
  rw [completeLayers, hkeep, hkeep, hkeep, hkeep]

/-- Frame end touches a layer's two bits in that layer's part alone (R407). -/
theorem getLsbD_completeLayer_of_ne (sc : Scan) {l l' : Layer} (hl : l' ≠ l) (s : State) :
    (completeLayer sc l s).irq.status.getLsbD (layerNo l') = s.irq.status.getLsbD (layerNo l')
      ∧ (completeLayer sc l s).irq.status.getLsbD (16 + layerNo l') = s.irq.status.getLsbD (16 + layerNo l') := by
  have hno : layerNo l' ≠ layerNo l := fun h => hl (layerNo_injective h)
  have := layerNo_lt l
  have := layerNo_lt l'
  simp only [getLsbD_completeLayer]
  cases sc.layers.get l with
  | none => exact ⟨rfl, rfl⟩
  | some e =>
    simp only [Option.elim_some]
    rw [if_neg (by omega), if_neg (by omega), if_neg (by omega), if_neg (by omega)]
    exact ⟨rfl, rfl⟩

/-- Frame end records frame-done and the completed channel of each layer in the scan set (R407). -/
theorem getLsbD_completeLayers (sc : Scan) (s : State) (l : Layer) :
    (completeLayers sc s).irq.status.getLsbD (layerNo l)
        = (s.irq.status.getLsbD (layerNo l) || (sc.layers.get l).isSome)
      ∧ (completeLayers sc s).irq.status.getLsbD (16 + layerNo l)
        = (sc.layers.get l).elim (s.irq.status.getLsbD (16 + layerNo l)) fun e => channelBit e.ch := by
  have hself : ∀ t, (completeLayer sc l t).irq.status.getLsbD (layerNo l)
        = (t.irq.status.getLsbD (layerNo l) || (sc.layers.get l).isSome)
      ∧ (completeLayer sc l t).irq.status.getLsbD (16 + layerNo l)
        = (sc.layers.get l).elim (t.irq.status.getLsbD (16 + layerNo l)) fun e => channelBit e.ch := by
    intro t
    simp only [getLsbD_completeLayer]
    cases sc.layers.get l <;> simp
  unfold completeLayers
  cases l <;> simp [getLsbD_completeLayer_of_ne, hself]

theorem completeLayers_irq (sc : Scan) (s : State) :
    (completeLayers sc s).irq = { s.irq with status := (completeLayers sc s).irq.status } := by
  simp only [completeLayers, completeLayer_irq]

theorem completeLayers_act (sc : Scan) (s : State) (l : Layer) :
    ((completeLayers sc s).layers.get l).act = (s.layers.get l).act := by
  rw [completeLayers_layers]
  cases sc.layers.get l <;> rfl

/-- The state right after a frame end (R407, R408). -/
theorem frameEnd_eq (sc : Scan) (s : State) :
    frameEnd sc s =
      { s with
        layers := (completeLayers sc s).layers
        irq := (completeLayers sc s).irq
        frame := { s.frame with scan := none, fsm := if s.frame.arm = .te then .armedHardwareTE else .frameDone }
        link := { s.link with data := .stop }
        logs := { s.logs with frames := s.logs.frames ++ [(completeLayers sc s).frameRecord sc .done] }
        mem := (frameEnd sc s).mem } := by
  apply State.ext_fields <;> simp [frameEnd, State.stopLanes, State.rearm]

theorem frameEnd_read (sc : Scan) (s : State) (a : Nat) :
    (frameEnd sc s).mem.read a = if s.scans sc .wb a then none else s.mem.read a := by
  have hmem : (frameEnd sc s).mem = ((completeLayers sc s).forgetWb sc).mem := by simp [frameEnd]
  rw [hmem, State.forgetWb_read, State.scans_congr (completeLayers_act sc s)]
  simp

/-- Settles O39, by `frameEnd_eq` and what frame end does to each layer. -/
theorem frameEndReports : Obligations.FrameEndReports := by
  intro s sc hfsm hscan
  refine ⟨frameEnd sc s, by rw [runChoice_scan, scanStep_of_scanning hfsm hscan], by apply State.ext_fields <;> simp,
    fun l => ?layer, fun l => ?done, fun l => ?channel, fun j hj => ?other, ?irq, ?frame, ?link, ?logs,
    fun a => frameEnd_read sc s a⟩
  case logs =>
    refine ⟨(completeLayers sc s).frameRecord sc .done, ?_,
      State.frameRecord_reports_of_act (completeLayers_act sc s) sc .done⟩
    rw [frameEnd_eq]
  all_goals rw [frameEnd_eq]
  case layer =>
    simp only [completeLayers_layers]
    cases sc.layers.get l with
    | none => rfl
    | some e => cases e with
      | mk ch => cases ch <;> rfl
  case done => exact (getLsbD_completeLayers sc s l).1
  case channel =>
    rw [(getLsbD_completeLayers sc s l).2]
    cases sc.layers.get l with
    | none => rfl
    | some e => cases e with
      | mk ch => cases ch <;> rfl
  case other => exact getLsbD_completeLayers_other sc s hj
  case irq => exact completeLayers_irq sc s

end Sys2Proof.Machine
end

section
/-! R412 to R414, R421: a frame that does not complete. -/

namespace Sys2Proof.Machine

/-- Ending the frame in flight, if there is one, changes its log, the frame's scan and memory alone. -/
theorem State.endInFlight_of_scan {s : State} {sc : Scan} (h : s.frame.scan = some sc) (o : FrameOutcome) :
    s.endInFlight o =
      { s with
        logs := { s.logs with frames := s.logs.frames ++ [s.frameRecord sc o] }
        frame := { s.frame with scan := none }
        mem := (s.forgetWb sc).mem } := by
  rw [← State.closeFrame_eq]
  simp only [State.endInFlight, h]

theorem State.endInFlight_of_none {s : State} (h : s.frame.scan = none) (o : FrameOutcome) : s.endInFlight o = s := by
  simp only [State.endInFlight, h]

/-- Recording a cause leaves the frame, the layers and memory alone, so it does not change what an abort does. -/
theorem abortFrame_setCause (s : State) (k : ErrKind) (c : Cause) :
    abortFrame k (s.setCause c) =
      { s with
        irq := { s.irq with status := s.irq.status ||| 1#32 <<< c.bit }
        frame := { s.frame with scan := none }
        link := { s.link with data := .stop }
        logs := (s.endInFlight (.aborted k)).logs
        mem := (s.endInFlight (.aborted k)).mem } := by
  rw [abortFrame, ← State.endInFlight_scan s (.aborted k)]
  cases hscan : s.frame.scan with
  | none =>
    rw [State.endInFlight_of_none hscan, State.endInFlight_of_none (s := s.setCause c) hscan, State.setCause_eq]
    rfl
  | some sc =>
    have hmem : ((s.setCause c).forgetWb sc).mem = (s.forgetWb sc).mem := by
      unfold State.forgetWb
      cases sc.layers.wb <;> rfl
    rw [State.endInFlight_of_scan hscan, State.endInFlight_of_scan (s := s.setCause c) hscan, hmem, State.setCause_eq]
    rfl

/-- A fatal error in a frame: its cause is recorded, the frame aborted, and the frame machine in `Error` (R413, R414). -/
def State.aborted (s : State) (k : ErrKind) (c : Cause) : State :=
  { s with
    irq := { s.irq with status := s.irq.status ||| 1#32 <<< c.bit }
    frame := { s.frame with scan := none, valid := false, fsm := .error k }
    link := { s.link with data := .stop }
    logs := (s.endInFlight (.aborted k)).logs
    mem := (s.endInFlight (.aborted k)).mem }

/-- An AXI error in a frame aborts it (R413). -/
theorem envAxiError_of_scanning {s : State} (hfsm : s.frame.fsm = .scanning) :
    envAxiError s = s.aborted .axiBus .axiErr := by
  simp only [envAxiError, if_pos hfsm, abortFrame_setCause]
  rfl

/-- The error IRQ in a frame aborts it (R414). -/
theorem envErrIrq_of_scanning {s : State} (hfsm : s.frame.fsm = .scanning) :
    envErrIrq s = s.aborted .errIrq .errIrq := by
  simp only [envErrIrq, abortFrame_setCause, hfsm]
  rfl

/-- The frame machine paused by the error IRQ: an error already there is kept (R414). -/
def Frame.pausedByErrIrq (f : Frame) : Frame :=
  match f.fsm with
  | .error _ => f
  | _ => { f with valid := false, fsm := .error .errIrq }

/-- Outside a frame the error IRQ pauses delivery (R414). -/
theorem envErrIrq_of_not_scanning {s : State} (hfsm : s.frame.fsm ≠ .scanning) :
    envErrIrq s =
      { s with
        irq := { s.irq with status := s.irq.status ||| 0x00000100#32 }
        frame := s.frame.pausedByErrIrq } := by
  simp only [envErrIrq, if_neg hfsm, State.setCause_eq, Frame.pausedByErrIrq]
  cases s.frame.fsm <;> rfl

/-- An underflow marks the frame in flight lost (R412). -/
theorem envUnderflow_eq (s : State) :
    envUnderflow s =
      if s.frame.fsm = .scanning then
        { s with
          irq := { s.irq with status := s.irq.status ||| 0x00000040#32 }
          frame := { s.frame with scan := s.frame.scan.map (fun sc => { sc with lost := true }) } }
      else s := by
  simp only [envUnderflow, State.setCause_eq]
  rfl

theorem envAxiError_of_not_scanning {s : State} (hfsm : s.frame.fsm ≠ .scanning) : envAxiError s = s := if_neg hfsm

/-- Settles O40. -/
theorem frameErrorsFromEnvironment : Obligations.FrameErrorsFromEnvironment := by
  intro s
  simp only [runChoice_env]
  refine ⟨by rw [envStep, envUnderflow_eq], fun hfsm => by rw [envStep, envAxiError_of_not_scanning hfsm],
    fun hfsm => ?paused, fun sc hfsm hscan e kind bit hcase => ?aborted⟩
  case paused =>
    rw [envStep, envErrIrq_of_not_scanning hfsm]
    unfold Frame.pausedByErrIrq
    cases s.frame.fsm <;> rfl
  case aborted =>
    have habort (k : ErrKind) (c : Cause) : s.aborted k c =
        { s with
          irq := { s.irq with status := s.irq.status ||| 1#32 <<< c.bit }
          frame := { s.frame with scan := none, valid := false, fsm := .error k }
          link := { s.link with data := .stop }
          logs := { s.logs with frames := s.logs.frames ++ [s.frameRecord sc (.aborted k)] }
          mem := (s.forgetWb sc).mem } := by
      rw [State.aborted, State.endInFlight_of_scan hscan]
    have hread (k : ErrKind) (c : Cause) (a : Nat) : (s.aborted k c).mem.read a
        = if s.scans sc .wb a then none else s.mem.read a := by
      rw [habort, State.forgetWb_read]
    rcases hcase with ⟨rfl, rfl, rfl⟩ | ⟨rfl, rfl, rfl⟩
    · exact ⟨_, _, by rw [envStep, envAxiError_of_scanning hfsm], by rw [habort]; rfl, s.frameRecord_reports sc _,
        hread _ _⟩
    · exact ⟨_, _, by rw [envStep, envErrIrq_of_scanning hfsm], by rw [habort]; rfl, s.frameRecord_reports sc _,
        hread _ _⟩

/-- What the reset does to the lanes: they stop if they carried a frame (R421, R105). -/
theorem panelReset_link (s : State) :
    (panelReset s).link = { s.link with data := if s.link.data = .hsFrame then .stop else s.link.data } := by
  have hlink : (panelReset s).link = (abandonFrame s).link := rfl
  rw [hlink, abandonFrame, State.leaveHs]
  simp only [State.endInFlight_frame]
  split
  next h => simp [State.stopLanes]
  next h => simp

theorem panelReset_logs_mem (s : State) :
    (panelReset s).logs = (s.endInFlight .abandoned).logs ∧ (panelReset s).mem = (s.endInFlight .abandoned).mem := by
  simp [panelReset, abandonFrame]

theorem State.endInFlight_logs (s : State) (o : FrameOutcome) :
    (s.endInFlight o).logs = { s.logs with frames := (s.endInFlight o).logs.frames } := by
  cases h : s.frame.scan with
  | none => rw [State.endInFlight_of_none h]
  | some sc => rw [State.endInFlight_of_scan h]

/-- A layer after the panel-domain reset (R421). -/
theorem panelReset_layer (s : State) (l : Layer) : ∃ r, (panelReset s).layers.get l = LayerState.afterReset r := by
  cases l <;> exact ⟨_, rfl⟩

/-- Settles O42. -/
theorem panelResetClears : Obligations.PanelResetClears := by
  intro s
  obtain ⟨hlogs, hmem⟩ := panelReset_logs_mem s
  refine ⟨panelReset s, exec_lcdcReset s, ?state, fun l => panelReset_layer s l, fun hscan => ?idle,
    fun sc hscan => ?inFlight⟩
  case state =>
    apply State.ext_fields
    case hlink => exact panelReset_link s
    case hlogs => rw [hlogs, State.endInFlight_logs]
    all_goals simp [panelReset, lcdcStatusMask, Tim.afterReset, Frame.afterReset]
  case idle =>
    rw [hlogs, hmem, State.endInFlight_of_none hscan]
    exact ⟨rfl, rfl⟩
  case inFlight =>
    rw [hlogs, hmem, State.endInFlight_of_scan hscan]
    exact ⟨⟨_, rfl, s.frameRecord_reports sc .abandoned⟩, fun a => s.forgetWb_read sc a⟩

end Sys2Proof.Machine
end

section
/-! R139, R143, R144: the producer's writes. -/

namespace Sys2Proof.Machine

theorem runChoice_pixelWrite (a : Word) (b : Byte) (s : State) :
    runChoice (.pixelWrite a b) s = .next (producerWrite a b s) := rfl

theorem producerWrite_of_none {s : State} (h : s.frame.scan = none) (a : Word) (b : Byte) :
    producerWrite a b s = { s with mem := s.mem.write a.toNat b } := by
  simp only [producerWrite, h]

/-- With a frame in flight the write marks each layer whose region it hits (R143). -/
theorem producerWrite_of_scan {s : State} {sc : Scan} (h : s.frame.scan = some sc) (a : Word) (b : Byte) :
    producerWrite a b s =
      { s with
        frame := { s.frame with scan := some { sc with
          raced := PerLayer.tabulate (fun l => sc.raced.get l || s.scans sc l a.toNat) } }
        mem := if s.scans sc .wb a.toNat then s.mem.forget a.toNat (a.toNat + 1) else s.mem.write a.toNat b } := by
  simp only [producerWrite, h]

/-- Settles O50, by whether a frame is in flight. -/
theorem producerWriteRaces : Obligations.ProducerWriteRaces := by
  intro s a b
  refine ⟨producerWrite a b s, runChoice_pixelWrite a b s, ?_⟩
  cases hscan : s.frame.scan with
  | none =>
    rw [producerWrite_of_none hscan]
    refine ⟨?_, fun a' ha' => ?_, fun _ => ⟨hscan, ?_⟩, fun sc h => absurd h (by simp)⟩
    · rw [hscan]
      exact State.ext_fields rfl rfl rfl rfl rfl (by rw [← hscan]) rfl rfl rfl rfl rfl rfl rfl rfl rfl rfl rfl rfl
    · rw [Memory.read_write, if_neg ha']
    · rw [Memory.read_write, if_pos rfl]
  | some sc =>
    rw [producerWrite_of_scan hscan]
    refine ⟨rfl, fun a' ha' => ?_, fun h => absurd h (by simp), fun sc' h => ?_⟩
    · dsimp only
      split
      · rw [Memory.read_forget, if_neg (by omega)]
      · rw [Memory.read_write, if_neg ha']
    · cases h
      refine ⟨?_, _, rfl, rfl, fun l => PerLayer.get_tabulate _ l⟩
      dsimp only
      split
      · rw [Memory.read_forget, if_pos (by omega)]
      · rw [Memory.read_write, if_pos rfl]

end Sys2Proof.Machine
end

section
/-! R400: the frame machine and the host operations. -/

namespace Sys2Proof.Machine

theorem writeAddr_fsm (l : Layer) (c : Channel) (a : Word) (s : State) :
    (writeAddr l c a s).frame.fsm = s.frame.fsm := by
  unfold writeAddr
  split_ifs <;> rfl

/-- Settles O44, operation by operation: all but six leave the frame machine alone, and of those the TE trigger and
the address write leave its state. -/
theorem frameMachineTransitions : Obligations.FrameMachineTransitions := by
  intro i s t h
  cases i with
  | lcdcStart =>
    cases h
    cases hfsm : s.frame.fsm with
    | idle =>
      rw [startFrame_of_rest (.inl hfsm)]
      cases s.frame.arm <;> rfl
    | frameDone =>
      rw [startFrame_of_rest (.inr hfsm)]
      cases s.frame.arm <;> rfl
    | _ => simp [startFrame, hfsm]
  | lcdcArmTe =>
    cases h
    rw [armTe_eq]
    cases hfsm : s.frame.fsm <;> simp [hfsm]
  | lcdcTeTrigger =>
    cases h
    rw [State.tePulse_eq]
    cases hfsm : s.frame.fsm <;> exact hfsm
  | lcdcErrorClr =>
    cases h
    cases hfsm : s.frame.fsm with
    | error k => rw [errorClr_of_error hfsm]
    | _ =>
      rw [errorClr_of_ne_error (by simp [hfsm])]
      exact hfsm
  | lcdcReset =>
    cases h
    rfl
  | lcdcWriteAddr l c a =>
    cases h
    exact writeAddr_fsm l c a s
  | _ =>
    cases h
    simp

end Sys2Proof.Machine
end

section
/-! What the operations of the link can do, said once. -/

namespace Sys2Proof.Machine

/-- An operation that only records its outcome: it returned, it holds, or it raised a model fault (R10). -/
def State.OnlyMarks (s t : State) : Prop := ∃ f r, t = { s with faulted := f, ret := r }

theorem State.onlyMarks_finish (s : State) (r : Result) : s.OnlyMarks (s.finish r) := ⟨_, _, rfl⟩

theorem State.onlyMarks_hold (s : State) : s.OnlyMarks s.hold := ⟨_, _, rfl⟩

theorem State.onlyMarks_fail (s : State) (c : FaultCode) : s.OnlyMarks (s.fail c) := ⟨_, _, rfl⟩

theorem State.onlyMarks_elim (s : State) (o : Option FaultCode) : s.OnlyMarks (o.elim s.hold s.fail) := by
  cases o with
  | none => exact s.onlyMarks_hold
  | some c => exact s.onlyMarks_fail c

/-- `dsi.init` writes nothing, or resets the PHY and programs the DSI (R230). -/
theorem dsiInit_cases (lanes : BitVec 4) (mode : DisplayMode) (bitClock pixelClock : Word) (s : State) :
    s.OnlyMarks (dsiInit lanes mode bitClock pixelClock s)
      ∨ s.link.job = none ∧ s.frame.fsm ≠ .scanning ∧ ∃ n, dsiInit lanes mode bitClock pixelClock s
          = State.finish { s.phyReset with
              dsi := s.dsi.program n mode bitClock (bitClock.toNat / pixelClock.toNat) } .ok := by
  by_cases hjob : s.link.job = none
  case neg =>
    rw [dsiInit, if_pos (Option.isSome_iff_ne_none.2 hjob)]
    exact .inl s.onlyMarks_hold
  by_cases hpower : s.dsi.power = .on
  case neg =>
    rw [dsiInit, if_neg (by simp [hjob]), if_pos (by_contra fun h => hpower ((Power.ne_off_iff _).1 h))]
    exact .inl (s.onlyMarks_fail _)
  by_cases hfsm : s.frame.fsm = .scanning
  case pos =>
    rw [dsiInit, if_neg (by simp [hjob]), if_neg (by simp [hpower]), if_pos hfsm]
    exact .inl (s.onlyMarks_fail _)
  rw [dsiInit_of_enabled hjob hpower hfsm]
  cases LaneCount.ofBits lanes with
  | none => exact .inl (s.onlyMarks_finish _)
  | some n =>
    rw [Option.elim_some]
    split_ifs
    · exact .inl (s.onlyMarks_finish _)
    · exact .inr ⟨hjob, hfsm, n, rfl⟩

/-- `dsi.send` writes nothing, or, with command traffic accepted, pushes the payload of a long packet of at most
`LONG_MAX` bytes and queues the packet (R235). -/
theorem dsiSend_cases (cmd : Byte) (params : List Byte) (s : State) :
    s.OnlyMarks (dsiSend cmd params s)
      ∨ s.commandReady ∧ ∃ p, (writeArrayFor (some (.txPkt p))).length ≤ (Config.longMax + 3) / 4
        ∧ dsiSend cmd params s = ((s.wrPushAll (writeArrayFor (some (.txPkt p)))).startJob (.txPkt p)).finish .ok := by
  by_cases hready : s.commandReady
  case neg =>
    rw [dsiSend_of_not_ready hready]
    exact .inl (s.onlyMarks_elim _)
  match params with
  | [] => exact .inr ⟨hready, .short dtDcsShort0 cmd 0#8, Nat.zero_le _, dsiSend_nil hready cmd⟩
  | [p] => exact .inr ⟨hready, .short dtDcsShort1 cmd p, Nat.zero_le _, dsiSend_one hready cmd p⟩
  | p :: q :: rest =>
    rw [dsiSend_long hready]
    split_ifs with hlong
    · exact .inl (s.onlyMarks_fail _)
    · refine .inr ⟨hready, .long dtDcsLong (cmd :: p :: q :: rest), ?_, rfl⟩
      rw [writeArrayFor, length_packLe, List.length_cons]
      omega

/-- `dsi.read` writes nothing, or, with command traffic accepted, queues the read request and begins to poll (R245). -/
theorem dsiRead_cases (cmd len : Byte) (s : State) :
    s.OnlyMarks (dsiRead cmd len s)
      ∨ s.commandReady ∧ ∃ p ph, dsiRead cmd len s
          = { s.flushOnIssue.startJob (.txRead p) with phase := ph, ret := .waiting } := by
  cases hactive : s.isr.active with
  | true =>
    rw [dsiRead, if_pos hactive]
    exact .inl (s.onlyMarks_fail _)
  | false =>
    by_cases hready : s.commandReady
    · exact .inr ⟨hready, _, _, dsiRead_of_ready hactive hready cmd len⟩
    · rw [dsiRead_of_not_ready hactive hready]
      exact .inl (s.onlyMarks_elim _)

/-- `dsi.ulps_enter` writes nothing, or, with the lanes idle and the latch exited, queues the entry (R260). -/
theorem dsiUlpsEnter_cases (s : State) :
    s.OnlyMarks (dsiUlpsEnter s)
      ∨ s.lanesIdle ∧ s.link.ulps = .exited ∧ dsiUlpsEnter s =
        { s with
          irq := { s.irq with status := s.irq.status &&& ~~~0x00001000#32 }
          link := { s.link with job := some .ulpsEnter, ulps := .entered }
          phase := .ulpsEntering s.now
          ret := .waiting } := by
  cases hactive : s.isr.active with
  | true =>
    rw [dsiUlpsEnter, if_pos hactive]
    exact .inl (s.onlyMarks_fail _)
  | false =>
    cases hulps : s.link.ulps with
    | entered =>
      rw [dsiUlpsEnter_of_entered hactive hulps]
      exact .inl (s.onlyMarks_finish _)
    | exited =>
      by_cases hready : s.dsiReady ∧ s.lanesIdle
      · exact .inr ⟨hready.2, rfl, dsiUlpsEnter_of_ready hactive hulps hready.1 hready.2⟩
      · rw [dsiUlpsEnter_of_not_ready hactive hulps hready]
        exact .inl (s.onlyMarks_elim _)

/-- `dsi.ulps_exit` writes nothing, or, with no job and the latch entered, queues the exit (R265). -/
theorem dsiUlpsExit_cases (s : State) :
    s.OnlyMarks (dsiUlpsExit s)
      ∨ s.link.job = none ∧ s.link.ulps = .entered ∧ dsiUlpsExit s =
        { s with
          irq := { s.irq with status := s.irq.status &&& ~~~0x00001000#32 }
          link := { s.link with job := some .ulpsExit, ulps := .exited }
          phase := .ulpsExiting s.now
          ret := .waiting } := by
  cases hactive : s.isr.active with
  | true =>
    rw [dsiUlpsExit, if_pos hactive]
    exact .inl (s.onlyMarks_fail _)
  | false =>
    cases hulps : s.link.ulps with
    | exited =>
      rw [dsiUlpsExit_of_exited hactive hulps]
      exact .inl (s.onlyMarks_finish _)
    | entered =>
      by_cases hready : s.dsiReady ∧ s.link.job = none
      · exact .inr ⟨hready.2, rfl, dsiUlpsExit_of_ready hactive hulps hready.1 hready.2⟩
      · rw [dsiUlpsExit_of_not_ready hactive hulps hready]
        exact .inl (s.onlyMarks_elim _)

end Sys2Proof.Machine
end

section
/-! What a host operation can do to each part of the state, said once. -/

namespace Sys2Proof

/-- The layer whose shadow registers an operation writes, if it does nothing else (R342 to R349). -/
def Instr.shadowLayer (i : Instr) : Option Layer :=
  match i with
  | .lcdcSetFormat l _ => some l
  | .lcdcSetBlend l _ _ => some l
  | .lcdcSetCkey l _ _ _ => some l
  | .lcdcSetCkeyAlpha l _ => some l
  | .lcdcSetGeometry l _ _ _ => some l
  | .lcdcSetPitch l _ => some l
  | .lcdcSetVmirror l _ => some l
  | _ => none

end Sys2Proof

namespace Sys2Proof.Machine

/-- No host operation changes the handler's record, the tick, the host program, the windows or the schedule. -/
theorem exec_frame {i : Instr} {s t : State} (h : exec i s = .next t) :
    t.isr = s.isr ∧ t.now = s.now ∧ t.prog = s.prog ∧ t.windows = s.windows ∧ t.sched = s.sched := by
  cases i <;> cases h <;> simp

/-- What a host operation can do to the layers (R340 to R359, R421). A register write of a shadow keeps the enable and
the presence of a format. -/
inductive LayersAfter (i : Instr) (s t : State) : Prop where
  | kept (h : t.layers = s.layers)
  | shadow (l : Layer) (f : LayerCfg → LayerCfg) (hi : i.shadowLayer = some l) (hen : ∀ c, (f c).en = c.en)
      (hfmt : ∀ c, c.fmt.isSome → (f c).fmt.isSome)
      (h : t.layers = s.layers.set l { s.layers.get l with sh := f (s.layers.get l).sh }.touch)
  | address (l : Layer) (c : Channel) (a : Word) (hi : i = .lcdcWriteAddr l c a) (hvalid : validAddress s.windows a)
      (h : t.layers = s.layers.set l ((s.layers.get l).putAddr c a).touch)
  | enable (l : Layer) (on : Bool) (hi : i = .lcdcEnable l on)
      (hon : on = true → s.tim.set = true ∧ (s.layers.get l).sh.fmt.isSome)
      (h : t.layers = s.layers.set l ((s.layers.get l).setEnable on))
  | reset (hi : i = .lcdcReset) (h : ∀ l, ∃ r, t.layers.get l = LayerState.afterReset r)

/-- `lcdc.write_addr` faults, or installs a valid address (R350). -/
theorem writeAddr_cases (l : Layer) (c : Channel) (a : Word) (s : State) :
    s.OnlyMarks (writeAddr l c a s)
      ∨ validAddress s.windows a ∧ writeAddr l c a s =
        { s with
          frame := { s.frame with scan := s.frame.scan.map (fun sc => sc.addrWritten l c) }
          layers := s.layers.set l ((s.layers.get l).putAddr c a).touch
          ret := .returned .ok } := by
  by_cases hvalid : validAddress s.windows a
  · exact .inr ⟨hvalid, writeAddr_of_valid hvalid l c⟩
  · left
    unfold writeAddr
    split_ifs with hmem halign
    · exact s.onlyMarks_fail _
    · exact s.onlyMarks_fail _
    · exact absurd ⟨by simpa using hmem, not_not.1 halign⟩ hvalid

/-- `lcdc.enable` faults, or enables a layer that has a format once panel timing is set, or disables it (R355). -/
theorem enableLayer_cases (l : Layer) (on : Bool) (s : State) :
    s.OnlyMarks (enableLayer l on s)
      ∨ (on = true → s.tim.set = true ∧ (s.layers.get l).sh.fmt.isSome)
        ∧ enableLayer l on s = (s.putLayer l ((s.layers.get l).setEnable on)).finish .ok := by
  simp only [enableLayer]
  split_ifs with htim hfmt
  · exact .inl (s.onlyMarks_fail _)
  · exact .inl (s.onlyMarks_fail _)
  · refine .inr ⟨?_, rfl⟩
    rintro rfl
    simpa [Option.isSome_iff_ne_none] using And.intro htim hfmt

/-- A register write of a shadow is the whole of its operation. -/
theorem layersAfter_writeShadow {i : Instr} {s : State} {l : Layer} {f : LayerCfg → LayerCfg}
    (hi : i.shadowLayer = some l) (hen : ∀ c, (f c).en = c.en) (hfmt : ∀ c, c.fmt.isSome → (f c).fmt.isSome) :
    LayersAfter i s ((s.writeShadow l f).finish .ok) :=
  .shadow l f hi hen hfmt rfl

/-- What each host operation does to the layers. -/
theorem exec_layers {i : Instr} {s t : State} (h : exec i s = .next t) : LayersAfter i s t := by
  cases i with
  | lcdcSetFormat l tag =>
    cases h
    unfold setFormat
    cases formatOperand l tag with
    | none => exact .kept rfl
    | some code => exact layersAfter_writeShadow rfl (fun _ => rfl) (fun _ _ => rfl)
  | lcdcSetBlend l mode alpha =>
    cases h
    cases l with
    | wb => exact .kept rfl
    | sp => exact .kept rfl
    | fg => exact layersAfter_writeShadow rfl (fun _ => rfl) (fun _ h => h)
    | bg => exact layersAfter_writeShadow rfl (fun _ => rfl) (fun _ h => h)
  | lcdcSetCkey l => cases h; exact layersAfter_writeShadow rfl (fun _ => rfl) (fun _ h => h)
  | lcdcSetCkeyAlpha l => cases h; exact layersAfter_writeShadow rfl (fun _ => rfl) (fun _ h => h)
  | lcdcSetGeometry l => cases h; exact layersAfter_writeShadow rfl (fun _ => rfl) (fun _ h => h)
  | lcdcSetPitch l => cases h; exact layersAfter_writeShadow rfl (fun _ => rfl) (fun _ h => h)
  | lcdcSetVmirror l => cases h; exact layersAfter_writeShadow rfl (fun _ => rfl) (fun _ h => h)
  | lcdcWriteAddr l c a =>
    cases h
    rcases writeAddr_cases l c a s with ⟨f, r, hmarks⟩ | ⟨hvalid, hwrite⟩
    · exact .kept (by rw [hmarks])
    · exact .address l c a rfl hvalid (by rw [hwrite])
  | lcdcEnable l on =>
    cases h
    rcases enableLayer_cases l on s with ⟨f, r, hmarks⟩ | ⟨hon, henable⟩
    · exact .kept (by rw [hmarks])
    · exact .enable l on rfl hon (by rw [henable]; rfl)
  | lcdcReset => cases h; exact .reset rfl (panelReset_layer s)
  | _ => cases h; exact .kept (by simp)

/-- What a host operation can do to the link (R230 to R276, R421). -/
inductive LinkAfter (i : Instr) (s t : State) : Prop where
  | kept (h : t.link = s.link)
  | init (hjob : s.link.job = none) (hfsm : s.frame.fsm ≠ .scanning)
      (h : t.link =
        { data := .stop, clk := .lp, job := none, ulps := .exited, rxFifo := [], rxSent := [], wrArray := [] })
  | send (p : Packet) (hready : s.commandReady)
      (hlen : (writeArrayFor (some (.txPkt p))).length ≤ (Config.longMax + 3) / 4)
      (h : t.link = { s.link with
        job := some (.txPkt p), wrArray := s.link.wrArray ++ writeArrayFor (some (.txPkt p)) })
  | read (p : Packet) (hready : s.commandReady)
      (h : t.link = { s.link with
        job := some (.txRead p), rxFifo := if Config.rxFlushOnIssue then [] else s.link.rxFifo })
  | ulpsEnter (hlanes : s.lanesIdle) (hulps : s.link.ulps = .exited)
      (h : t.link = { s.link with job := some .ulpsEnter, ulps := .entered })
  | ulpsExit (hjob : s.link.job = none) (hulps : s.link.ulps = .entered)
      (h : t.link = { s.link with job := some .ulpsExit, ulps := .exited })
  | reset (hi : i = .lcdcReset)
      (h : t.link = { s.link with data := if s.link.data = .hsFrame then .stop else s.link.data })

/-- What each host operation does to the link. -/
theorem exec_link {i : Instr} {s t : State} (h : exec i s = .next t) : LinkAfter i s t := by
  cases i with
  | dsiInit lanes mode bitClock pixelClock =>
    cases h
    rcases dsiInit_cases lanes mode bitClock pixelClock s with ⟨f, r, hmarks⟩ | ⟨hjob, hfsm, n, hinit⟩
    · exact .kept (by rw [hmarks])
    · exact .init hjob hfsm (by rw [hinit]; rfl)
  | dsiSend cmd params =>
    cases h
    rcases dsiSend_cases cmd params s with ⟨f, r, hmarks⟩ | ⟨hready, p, hlen, hsend⟩
    · exact .kept (by rw [hmarks])
    · exact .send p hready hlen (by rw [hsend, State.finish_link, State.startJob_link, State.wrPushAll_link])
  | dsiRead cmd len =>
    cases h
    rcases dsiRead_cases cmd len s with ⟨f, r, hmarks⟩ | ⟨hready, p, ph, hread⟩
    · exact .kept (by rw [hmarks])
    · exact .read p hready (by rw [hread, State.startJob_eq]; rfl)
  | dsiUlpsEnter =>
    cases h
    rcases dsiUlpsEnter_cases s with ⟨f, r, hmarks⟩ | ⟨hlanes, hulps, henter⟩
    · exact .kept (by rw [hmarks])
    · exact .ulpsEnter hlanes hulps (by rw [henter])
  | dsiUlpsExit =>
    cases h
    rcases dsiUlpsExit_cases s with ⟨f, r, hmarks⟩ | ⟨hjob, hulps, hexit⟩
    · exact .kept (by rw [hmarks])
    · exact .ulpsExit hjob hulps (by rw [hexit])
  | lcdcReset => cases h; exact .reset rfl (panelReset_link s)
  | _ => cases h; exact .kept (by simp)

/-- What a host operation can do to the frame machine (R350, R400 to R421). -/
inductive FrameAfter (i : Instr) (s t : State) : Prop where
  | kept (h : t.frame = s.frame)
  | start (hfsm : s.frame.fsm = .idle ∨ s.frame.fsm = .frameDone)
      (h : t.frame =
        if s.frame.arm = .software then { s.frame with valid := true, fsm := .armedSoftware }
        else { s.frame with fsm := .armedHardwareTE })
  | arm (h : t.frame =
        if s.frame.fsm = .idle ∨ s.frame.fsm = .frameDone ∨ s.frame.fsm = .armedSoftware then
          { s.frame with arm := .te, valid := false, fsm := .armedHardwareTE }
        else { s.frame with arm := .te })
  | pulse (h : t.frame = { s.frame with
        valid := if s.frame.fsm = .armedHardwareTE then true else s.frame.valid })
  | address (l : Layer) (c : Channel)
      (h : t.frame = { s.frame with scan := s.frame.scan.map (fun sc => sc.addrWritten l c) })
  | acknowledge (k : ErrKind) (hfsm : s.frame.fsm = .error k)
      (h : t.frame = { s.frame with
        valid := false, fsm := if s.frame.arm = .te then .armedHardwareTE else .idle })
  | reset (hi : i = .lcdcReset) (hlogs : t.logs = (s.endInFlight .abandoned).logs) (h : t.frame = Frame.afterReset)

/-- What each host operation does to the frame machine; and none but the reset writes a log. -/
theorem exec_frameMachine {i : Instr} {s t : State} (h : exec i s = .next t) :
    FrameAfter i s t ∧ (t.logs = s.logs ∨ t.logs = (s.endInFlight .abandoned).logs ∧ t.frame = Frame.afterReset) := by
  cases i with
  | lcdcStart =>
    cases h
    refine ⟨?_, .inl (by simp)⟩
    by_cases hfsm : s.frame.fsm = .idle ∨ s.frame.fsm = .frameDone
    · refine .start hfsm ?_
      rw [startFrame_of_rest hfsm]
      split_ifs <;> rfl
    · refine .kept ?_
      cases h : s.frame.fsm <;> simp_all [startFrame]
  | lcdcArmTe =>
    cases h
    exact ⟨.arm (by rw [armTe_eq]), .inl (by simp)⟩
  | lcdcTeTrigger =>
    cases h
    exact ⟨.pulse (by rw [State.tePulse_eq]; rfl), .inl (by simp)⟩
  | lcdcErrorClr =>
    cases h
    refine ⟨?_, .inl (by simp)⟩
    by_cases hfsm : ∃ k, s.frame.fsm = .error k
    · obtain ⟨k, hfsm⟩ := hfsm
      exact .acknowledge k hfsm (by rw [errorClr_of_error hfsm])
    · refine .kept ?_
      rw [errorClr_of_ne_error (not_exists.1 hfsm)]
  | lcdcWriteAddr l c a =>
    cases h
    refine ⟨?_, .inl (by simp)⟩
    rcases writeAddr_cases l c a s with ⟨f, r, hmarks⟩ | ⟨_, hwrite⟩
    · exact .kept (by rw [hmarks])
    · exact .address l c (by rw [hwrite])
  | lcdcReset =>
    cases h
    exact ⟨.reset rfl (panelReset_logs_mem s).1 rfl, .inr ⟨(panelReset_logs_mem s).1, rfl⟩⟩
  | _ =>
    cases h
    exact ⟨.kept (by simp), .inl (by simp)⟩

end Sys2Proof.Machine
end

section
/-! What a SCAN step and an event of the environment can do, said once. -/

namespace Sys2Proof.Machine

/-- What a SCAN step can do (R405, R407): nothing, a fault before or after the latch, a frame begin, a frame end. -/
inductive ScanAfter (s : State) : State → Prop where
  | kept : ScanAfter s s
  | fault (c : FaultCode) : ScanAfter s (s.raise c)
  | latchFault (c : FaultCode) : ScanAfter s (s.latch.raise c)
  | begins (mode : DisplayMode) (ls : PerLayer (Option ScanEntry)) (hfsm : s.frame.fsm ≠ .scanning)
      (hlanes : s.lanesIdle) (hulps : s.link.ulps = .exited) (hset : scanSet s.latch = .ok ls) :
      ScanAfter s (beginScan mode ls s.latch)
  | ends (sc : Scan) (hfsm : s.frame.fsm = .scanning) (hscan : s.frame.scan = some sc) : ScanAfter s (frameEnd sc s)

theorem frameBegin_after {s : State} (hfsm : s.frame.fsm ≠ .scanning) : ScanAfter s (frameBegin s) := by
  unfold frameBegin
  split_ifs with hbusy hconf hlink htim
  · exact .kept
  · exact .fault _
  · exact .fault _
  · exact .fault _
  · cases s.dsi.mode with
    | none => exact .fault _
    | some mode =>
      cases hset : scanSet s.latch with
      | error c => exact .latchFault c
      | ok ls =>
        simp only [not_or, Option.not_isSome_iff_eq_none, not_not] at hbusy
        simp only [not_or] at hlink
        exact .begins mode ls hfsm hbusy ((UlpsLatch.ne_entered_iff _).1 hlink.2.1) hset

theorem scanStep_after (s : State) : ScanAfter s (scanStep s) := by
  cases hfsm : s.frame.fsm with
  | scanning =>
    cases hscan : s.frame.scan with
    | none => simpa [scanStep, hfsm, hscan] using ScanAfter.kept
    | some sc => simpa [scanStep, hfsm, hscan] using ScanAfter.ends sc hfsm hscan
  | armedSoftware =>
    cases hvalid : s.frame.valid with
    | true => simpa [scanStep, hfsm, hvalid] using frameBegin_after (s := s) (by simp [hfsm])
    | false => simpa [scanStep, hfsm, hvalid] using ScanAfter.kept
  | armedHardwareTE =>
    cases hvalid : s.frame.valid with
    | true => simpa [scanStep, hfsm, hvalid] using frameBegin_after (s := s) (by simp [hfsm])
    | false => simpa [scanStep, hfsm, hvalid] using ScanAfter.kept
  | _ => simpa [scanStep, hfsm] using ScanAfter.kept

/-- What an event of the environment can do (R242 to R244, R410 to R414). -/
inductive EnvAfter (s : State) : State → Prop where
  | kept : EnvAfter s s
  | byte (b : Byte) (hdata : s.link.data = .bta) (hroom : s.link.rxFifo.length < Config.rxFifoDepth) :
      EnvAfter s { s with link := { s.link with rxFifo := s.link.rxFifo ++ [b], rxSent := s.link.rxSent ++ [b] } }
  | response (hdata : s.link.data = .bta) :
      EnvAfter s (((s.emit (.rx s.link.rxSent)).setCause .rxDone).endJob .stop)
  | failure (c : Cause) (hdata : s.link.data = .bta) : EnvAfter s ((s.setCause c).endJob .stop)
  | pulse : EnvAfter s s.tePulse
  | lost (hfsm : s.frame.fsm = .scanning) :
      EnvAfter s
        { s with
          irq := { s.irq with status := s.irq.status ||| 0x00000040#32 }
          frame := { s.frame with scan := s.frame.scan.map (fun sc => { sc with lost := true }) } }
  | abort (k : ErrKind) (c : Cause) (hfsm : s.frame.fsm = .scanning) : EnvAfter s (s.aborted k c)
  | paused (hfsm : s.frame.fsm ≠ .scanning) :
      EnvAfter s
        { s with
          irq := { s.irq with status := s.irq.status ||| 0x00000100#32 }
          frame := s.frame.pausedByErrIrq }

theorem envRxFail_after (c : Cause) (s : State) : EnvAfter s (envRxFail c s) := by
  unfold envRxFail
  split_ifs with hdata
  · exact .failure c hdata
  · exact .kept

theorem envStep_after (e : EnvEvent) (s : State) : EnvAfter s (envStep e s) := by
  cases e with
  | rxByte b =>
    simp only [envStep, envRxByte]
    split_ifs with h
    · exact .byte b h.1 h.2
    · exact .kept
  | rxEnd =>
    simp only [envStep, envRxEnd]
    split_ifs with hdata
    · exact .response hdata
    · exact .kept
  | rxTimeout => exact envRxFail_after .rxTimeout s
  | btaFail => exact envRxFail_after .btaFail s
  | rxError => exact envRxFail_after .rxErr s
  | teEdge pol =>
    simp only [envStep, envTeEdge]
    split_ifs
    · exact .pulse
    · exact .kept
  | underflow =>
    simp only [envStep, envUnderflow_eq]
    split_ifs with hfsm
    · exact .lost hfsm
    · exact .kept
  | axiError =>
    by_cases hfsm : s.frame.fsm = .scanning
    · rw [envStep, envAxiError_of_scanning hfsm]
      exact .abort _ _ hfsm
    · rw [envStep, envAxiError_of_not_scanning hfsm]
      exact .kept
  | errIrq =>
    by_cases hfsm : s.frame.fsm = .scanning
    · rw [envStep, envErrIrq_of_scanning hfsm]
      exact .abort _ _ hfsm
    · rw [envStep, envErrIrq_of_not_scanning hfsm]
      exact .paused hfsm

/-- What a producer's write changes: memory, and which layers of the frame in flight it raced (R143). -/
theorem producerWrite_eq (a : Word) (b : Byte) (s : State) :
    ∃ raced : Scan → PerLayer Bool, producerWrite a b s =
      { s with
        frame := { s.frame with scan := s.frame.scan.map fun sc => { sc with raced := raced sc } }
        mem := (producerWrite a b s).mem } := by
  refine ⟨fun sc => PerLayer.tabulate fun l => sc.raced.get l || s.scans sc l a.toNat, ?_⟩
  cases hscan : s.frame.scan with
  | none =>
    rw [producerWrite_of_none hscan, Option.map_none, ← hscan]
  | some sc => rw [producerWrite_of_scan hscan, Option.map_some]

end Sys2Proof.Machine
end

section
/-! R340, R359: which operations write the layers. -/

namespace Sys2Proof.Machine

/-- Settles O34, by what each operation does to the layers: it writes one layer's state at most. -/
theorem layerIndependence : Obligations.LayerIndependence := by
  intro i s t h hreset l hne
  have hsame {l' : Layer} {L : LayerState} (ht : t.layers = s.layers.set l' L) : l = l' := by
    by_contra hl
    exact hne (by rw [ht, PerLayer.get_set, if_neg hl])
  cases exec_layers h with
  | kept ht => exact absurd (by rw [ht]) hne
  | shadow l' f hi _ _ ht =>
    obtain rfl := hsame ht
    cases i <;> simp_all [Instr.shadowLayer]
  | address l' c a hi _ ht =>
    obtain rfl := hsame ht
    subst hi
    simp
  | enable l' on hi _ ht =>
    obtain rfl := hsame ht
    subst hi
    simp
  | reset hi => exact absurd hi hreset

/-- The phase of a layer after a host operation: a touch, an enable or disable, or a reset (R340). -/
theorem exec_phase {i : Instr} {s t : State} (h : exec i s = .next t) (l : Layer) :
    (t.layers.get l).phase = (s.layers.get l).phase
      ∨ (s.layers.get l).phase = .disabled ∧ (t.layers.get l).phase = .configuring
      ∨ (∃ on, i = .lcdcEnable l on ∧ (t.layers.get l).phase = if on then .enabled else .disabled)
      ∨ i = .lcdcReset ∧ (t.layers.get l).phase = .disabled := by
  have htouch {l' : Layer} {L : LayerState} (hL : L.phase = (s.layers.get l').phase)
      (ht : t.layers = s.layers.set l' L.touch) :
      (t.layers.get l).phase = (s.layers.get l).phase
        ∨ (s.layers.get l).phase = .disabled ∧ (t.layers.get l).phase = .configuring := by
    rw [ht, PerLayer.get_set]
    by_cases hl : l = l'
    · subst hl
      rw [if_pos rfl, LayerState.touch_phase, hL]
      by_cases hd : (s.layers.get l).phase = .disabled <;> simp [hd]
    · exact .inl (by rw [if_neg hl])
  cases exec_layers h with
  | kept ht => exact .inl (by rw [ht])
  | shadow l' f _ _ _ ht =>
    exact (htouch (L := { s.layers.get l' with sh := f (s.layers.get l').sh }) rfl ht).imp_right .inl
  | address l' c a _ _ ht => exact (htouch (by simp) ht).imp_right .inl
  | enable l' on hi _ ht =>
    by_cases hl : l = l'
    · subst hl
      exact .inr (.inr (.inl ⟨on, hi, by rw [ht, PerLayer.get_set, if_pos rfl, LayerState.setEnable]⟩))
    · exact .inl (by rw [ht, PerLayer.get_set, if_neg hl])
  | reset hi hl =>
    obtain ⟨r, hr⟩ := hl l
    exact .inr (.inr (.inr ⟨hi, by rw [hr]; rfl⟩))

/-- A SCAN step latches the layers, or toggles the current channels: it changes no phase (R80, R407). -/
theorem scanStep_layer (s : State) (l : Layer) :
    ((scanStep s).layers.get l).sh = (s.layers.get l).sh ∧ ((scanStep s).layers.get l).phase = (s.layers.get l).phase
      ∧ (∀ c, ((scanStep s).layers.get l).addr c = (s.layers.get l).addr c)
      ∧ (((scanStep s).layers.get l).act = (s.layers.get l).act
        ∨ ((scanStep s).layers.get l).act = some (s.layers.get l).sh) := by
  have haddr : ∀ (L : LayerState) (x : Option LayerCfg) (c' c : Channel),
      ({ L with act := x } : LayerState).addr c = L.addr c ∧ ({ L with cur := c' } : LayerState).addr c = L.addr c := by
    intro L x c' c
    cases c <;> exact ⟨rfl, rfl⟩
  have h := scanStep_after s
  generalize scanStep s = t at h ⊢
  cases h with
  | kept => exact ⟨rfl, rfl, fun _ => rfl, .inl rfl⟩
  | fault c => exact ⟨rfl, rfl, fun _ => rfl, .inl rfl⟩
  | latchFault c =>
    rw [State.raise_layers, State.latch_get]
    exact ⟨rfl, rfl, fun c => (haddr _ _ .ch0 c).1, .inr rfl⟩
  | begins mode ls =>
    rw [(beginScan_frame mode ls s.latch).2.2.1, State.latch_get]
    exact ⟨rfl, rfl, fun c => (haddr _ _ .ch0 c).1, .inr rfl⟩
  | ends sc =>
    rw [frameEnd_eq]
    simp only [completeLayers_layers]
    cases sc.layers.get l with
    | none => exact ⟨rfl, rfl, fun _ => rfl, .inl rfl⟩
    | some e => exact ⟨rfl, rfl, fun c => (haddr _ none _ c).2, .inl rfl⟩

/-- Settles O35, by the phase after each operation, and since of the other agents only SCAN writes layers. -/
theorem layerStateTransitions : Obligations.LayerStateTransitions := by
  refine ⟨fun i s t l h => ?_, fun c s t l hhost hisr h => ?_⟩
  · rcases exec_phase h l with hp | ⟨hs, ht⟩ | ⟨on, rfl, ht⟩ | ⟨rfl, ht⟩
    · simp_all
    · simp [hs, ht]
    · cases on <;> simp [ht]
    · simp [ht]
  · cases c with
    | host => exact absurd rfl hhost
    | isr => exact absurd rfl hisr
    | scan => cases h; exact (scanStep_layer s l).2.1
    | rawAccess a n => cases h
    | _ => cases h; simp

end Sys2Proof.Machine
end

section
/-! R450 to R454: what handler entry does to the status and enable words. -/

namespace Sys2Proof.Machine

/-- Clearing one of bits 0 to 13 by its mask leaves every other bit (R71). -/
theorem getLsbD_clearStatus_one (s : State) {i : Nat} (hi : i < 14) (j : Nat) :
    (s.clearStatus (1#32 <<< i)).irq.status.getLsbD j = (s.irq.status.getLsbD j && !decide (j = i)) := by
  rw [State.clearStatus, getLsbD_w1c, getLsbD_one_shift]
  by_cases hj : j = i
  · subst hj
    simp [hi, show j < 32 by omega]
  · simp [hj]

/-- The fatal part of handler entry masks the fatal causes it reports and remembers them; the status stays (R454). -/
theorem handleFatal_irq (w : Word) (s : State) :
    (handleFatal w s).irq =
      { s.irq with fatalMasked := s.irq.fatalMasked ||| w.extractLsb' 7 2, enable := s.irq.enable &&& ~~~w } := by
  unfold handleFatal
  split
  next hw =>
    have hall : s.irq.enable &&& ~~~0#32 = s.irq.enable := by rw [BitVec.not_zero, BitVec.and_allOnes]
    rw [hw, hall, BitVec.extractLsb'_zero, BitVec.or_zero]
  next hw => simp [State.maskFatal]

theorem handleUnderflow_irq (w : Word) (s : State) :
    (handleUnderflow w s).irq = (if w.getLsbD 6 then (s.clearStatus (1#32 <<< 6)).irq else s.irq) := by
  unfold handleUnderflow
  split <;> rfl

theorem handleInfo_irq (w : Word) (i : Nat) (s : State) :
    (handleInfo w i s).irq = (if w.getLsbD i then (s.clearStatus (1#32 <<< i)).irq else s.irq) := by
  unfold handleInfo
  split <;> rfl

theorem handleDone_irq (x w : Word) (l : Layer) (s : State) :
    (handleDone x w l s).irq = (if w.getLsbD (layerNo l) then (s.clearStatus (1#32 <<< layerNo l)).irq else s.irq) := by
  unfold handleDone
  split <;> simp

/-- Between the two status and enable words exactly the status bits of `p` are cleared. -/
structure Irq.Clears (p : Nat → Bool) (a b : Irq) : Prop where
  status : ∀ j, b.status.getLsbD j = (a.status.getLsbD j && !p j)
  enable : b.enable = a.enable
  fatalMasked : b.fatalMasked = a.fatalMasked

theorem Irq.Clears.trans {p q : Nat → Bool} {a b c : Irq} (hab : Irq.Clears p a b) (hbc : Irq.Clears q b c) :
    Irq.Clears (fun j => p j || q j) a c where
  status j := by rw [hbc.status, hab.status, Bool.not_or, Bool.and_assoc]
  enable := hbc.enable.trans hab.enable
  fatalMasked := hbc.fatalMasked.trans hab.fatalMasked

theorem Irq.Clears.congr {p q : Nat → Bool} {a b : Irq} (h : Irq.Clears p a b) (hpq : ∀ j, q j = p j) :
    Irq.Clears q a b where
  status j := by rw [hpq, h.status]
  enable := h.enable
  fatalMasked := h.fatalMasked

/-- A part of handler entry that clears bit `i` if it is pending (R452). -/
theorem clears_of_pending {s t : State} {w : Word} {i : Nat} (hi : i < 14)
    (h : t.irq = if w.getLsbD i then (s.clearStatus (1#32 <<< i)).irq else s.irq) :
    Irq.Clears (fun j => decide (j = i) && w.getLsbD i) s.irq t.irq := by
  rw [h]
  cases w.getLsbD i with
  | false => exact ⟨by simp, rfl, rfl⟩
  | true => exact ⟨fun j => by rw [if_pos rfl, getLsbD_clearStatus_one s hi, Bool.and_true], rfl, rfl⟩

theorem handleUnderflow_clears (w : Word) (s : State) :
    Irq.Clears (fun j => decide (j = 6) && w.getLsbD 6) s.irq (handleUnderflow w s).irq :=
  clears_of_pending (by omega) (handleUnderflow_irq w s)

theorem handleInfo_clears (w : Word) {i : Nat} (hi : i < 14) (s : State) :
    Irq.Clears (fun j => decide (j = i) && w.getLsbD i) s.irq (handleInfo w i s).irq :=
  clears_of_pending hi (handleInfo_irq w i s)

theorem handleDone_clears (x w : Word) (l : Layer) (s : State) :
    Irq.Clears (fun j => decide (j = layerNo l) && w.getLsbD (layerNo l)) s.irq (handleDone x w l s).irq :=
  clears_of_pending ((layerNo_lt l).trans (by omega)) (handleDone_irq x w l s)

/-- After its fatal part, handler entry clears exactly the pending ones of bits 0 to 6 (R452). -/
theorem handlerEntry_clears (s : State) :
    Irq.Clears (fun j => decide (j < 7) && (s.irq.status &&& s.irq.enable).getLsbD j)
      (handleFatal (s.irq.status &&& s.irq.enable &&& fatalMask) s.enterHandler).irq (handlerEntry s).irq := by
  simp only [handlerEntry, queueDefault_frame]
  generalize s.irq.status &&& s.irq.enable = pending
  refine ((((((((handleUnderflow_clears pending (handleFatal (pending &&& fatalMask) s.enterHandler)).trans
    (handleInfo_clears pending (i := 5) (by omega) _)).trans
    (handleInfo_clears pending (i := 4) (by omega) _)).trans
    (handleDone_clears s.irq.status pending .fg _)).trans
    (handleDone_clears s.irq.status pending .bg _)).trans
    (handleDone_clears s.irq.status pending .wb _)).trans
    (handleDone_clears s.irq.status pending .sp _))).congr fun j => ?_
  by_cases hj : j < 7
  · interval_cases j <;> simp [layerNo]
  · have hlayer : ∀ l, j ≠ layerNo l := fun l h => hj (by have := layerNo_lt l; omega)
    simp [hj, hlayer, show j ≠ 6 by omega, show j ≠ 5 by omega, show j ≠ 4 by omega]

theorem getLsbD_fatalMask (j : Nat) : fatalMask.getLsbD j = (decide (j = 7) || decide (j = 8)) := by
  by_cases h : j < 32
  · interval_cases j <;> decide
  · rw [BitVec.getLsbD_of_ge _ _ (by omega)]
    simp
    omega

/-- Handler entry clears exactly the enabled ones of status bits 0 to 6 (R452). -/
theorem getLsbD_handlerEntry_status (s : State) (j : Nat) :
    (handlerEntry s).irq.status.getLsbD j
      = (s.irq.status.getLsbD j && !(decide (j < 7) && s.irq.enable.getLsbD j)) := by
  rw [(handlerEntry_clears s).status, handleFatal_irq, BitVec.getLsbD_and]
  have hstatus : s.enterHandler.irq.status = s.irq.status := rfl
  rw [hstatus]
  cases s.irq.status.getLsbD j <;> simp

/-- Handler entry masks exactly the enables of the recorded fatal causes (R454). -/
theorem getLsbD_handlerEntry_enable (s : State) (j : Nat) :
    (handlerEntry s).irq.enable.getLsbD j
      = (s.irq.enable.getLsbD j && !((decide (j = 7) || decide (j = 8)) && s.irq.status.getLsbD j)) := by
  have henable : s.enterHandler.irq.enable = s.irq.enable := rfl
  rw [(handlerEntry_clears s).enable, handleFatal_irq, henable]
  by_cases hj : j < 32
  · simp only [BitVec.getLsbD_and, BitVec.getLsbD_not, getLsbD_fatalMask, hj, decide_true, Bool.true_and]
    cases s.irq.enable.getLsbD j <;> simp [Bool.and_comm]
  · rw [BitVec.getLsbD_of_ge _ _ (by omega), BitVec.getLsbD_of_ge _ _ (by omega), Bool.false_and]

theorem handlerEntry_fatalMasked (s : State) :
    (handlerEntry s).irq.fatalMasked = s.irq.fatalMasked ||| (s.irq.status &&& s.irq.enable).extractLsb' 7 2 := by
  have hmask (w : Word) : (w &&& fatalMask).extractLsb' 7 2 = w.extractLsb' 7 2 := by
    apply BitVec.eq_of_getLsbD_eq
    intro j hj
    have hbit : 7 + j = 7 ∨ 7 + j = 8 := by omega
    simp only [BitVec.getLsbD_extractLsb', BitVec.getLsbD_and, getLsbD_fatalMask]
    rcases hbit with h | h <;> simp [h]
  rw [(handlerEntry_clears s).fatalMasked, handleFatal_irq, hmask]
  rfl

theorem isrStep_of_line_high {s : State} (hidle : s.isr.active = false) (hline : s.irqLine = true) :
    isrStep s = .next (handlerEntry s) := by
  simp [isrStep, hidle, hline]

/-- The line is high when some enabled bit 0 to 8 is set (R450). -/
theorem State.irqLine_of_pending {s : State}
    (h : ∃ j, j < 9 ∧ s.irq.status.getLsbD j = true ∧ s.irq.enable.getLsbD j = true) : s.irqLine = true := by
  obtain ⟨j, hj, hstatus, henable⟩ := h
  rw [← Bool.not_eq_false, State.irqLine_eq_false]
  intro hlow
  simpa [hstatus, henable] using hlow j hj

/-- Settles O46, bit by bit; the line drops since every bit that is still set is not enabled any more. -/
theorem handlerEntryStatus : Obligations.HandlerEntryStatus := by
  intro s hidle hpending
  refine ⟨handlerEntry s, isrStep_of_line_high hidle (State.irqLine_of_pending hpending),
    by apply State.ext_fields <;> simp, handlerEntry_active s, getLsbD_handlerEntry_status s,
    getLsbD_handlerEntry_enable s, handlerEntry_fatalMasked s, ?_⟩
  rw [State.irqLine_eq_false]
  intro j hj
  rw [getLsbD_handlerEntry_status, getLsbD_handlerEntry_enable]
  have hclass : j < 7 ∨ j = 7 ∨ j = 8 := by omega
  rcases hclass with h | rfl | rfl
  · cases s.irq.enable.getLsbD j <;> simp [h]
  · cases s.irq.status.getLsbD 7 <;> simp
  · cases s.irq.status.getLsbD 8 <;> simp

end Sys2Proof.Machine
end

section
/-! R452, R455, R456: what handler entry logs and queues. -/

namespace Sys2Proof.Machine

/-- Between two states exactly these diagnostics and events are logged, and exactly this work is queued. -/
structure State.Queues (diag : List DiagEvent) (events : List CallbackEvent) (work : List Action) (s t : State) :
    Prop where
  logs : t.logs = { s.logs with diag := s.logs.diag ++ diag, events := s.logs.events ++ events }
  work : t.isr.work = s.isr.work ++ work
  cb : t.cb = s.cb
  prog : t.prog = s.prog

theorem State.Queues.trans {d d' : List DiagEvent} {e e' : List CallbackEvent} {w w' : List Action} {s t u : State}
    (hst : State.Queues d e w s t) (htu : State.Queues d' e' w' t u) :
    State.Queues (d ++ d') (e ++ e') (w ++ w') s u where
  logs := by
    rw [htu.logs, hst.logs]
    simp
  work := by rw [htu.work, hst.work, List.append_assoc]
  cb := htu.cb.trans hst.cb
  prog := htu.prog.trans hst.prog

theorem State.Queues.of_eq {s t : State} (hlogs : t.logs = s.logs) (hisr : t.isr = s.isr) (hcb : t.cb = s.cb)
    (hprog : t.prog = s.prog) : State.Queues [] [] [] s t where
  logs := by simp [hlogs]
  work := by simp [hisr]
  cb := hcb
  prog := hprog

/-- The event of the fault callback, if one is registered (R455). -/
def State.faultEvents (s : State) (kind : ErrKind) : List CallbackEvent :=
  if s.cb.fault.isSome then [.faultCb kind] else []

/-- The operations of the fault callback, if one is registered (R455). -/
def State.faultWork (s : State) (kind : ErrKind) : List Action :=
  s.cb.fault.elim [] fun id => (s.prog.faultCallback id kind).map .op

theorem queueFault_queues (s : State) (kind : ErrKind) :
    State.Queues [] (s.faultEvents kind) (s.faultWork kind) s (s.queueFault kind) := by
  unfold State.queueFault State.faultEvents State.faultWork
  cases s.cb.fault with
  | none => exact .of_eq rfl rfl rfl rfl
  | some id => exact ⟨by simp, rfl, rfl, rfl⟩

/-- Some pending cause is fatal exactly when bit 7 or bit 8 is (R452). -/
theorem and_fatalMask_eq_zero (w : Word) : w &&& fatalMask = 0#32 ↔ (w.getLsbD 7 || w.getLsbD 8) = false := by
  constructor
  · intro h
    have hbit (j : Nat) : (w.getLsbD j && (decide (j = 7) || decide (j = 8))) = false := by
      rw [← getLsbD_fatalMask, ← BitVec.getLsbD_and, h, BitVec.getLsbD_zero]
    simpa using And.intro (hbit 7) (hbit 8)
  · intro h
    obtain ⟨h7, h8⟩ := Bool.or_eq_false_iff.1 h
    apply BitVec.eq_of_getLsbD_eq
    intro j _
    rw [BitVec.getLsbD_and, getLsbD_fatalMask, BitVec.getLsbD_zero]
    by_cases hj7 : j = 7
    · rw [hj7, h7, Bool.false_and]
    · by_cases hj8 : j = 8
      · rw [hj8, h8, Bool.false_and]
      · simp [hj7, hj8]

/-- The kind reported for pending fatal causes: the AXI error first (R452). -/
def fatalKind (pending : Word) : ErrKind := if pending.getLsbD 7 then .axiBus else .errIrq

/-- The fatal part of handler entry: one diagnostic, and the fault callback (R452, R455). -/
theorem handleFatal_queues (pending : Word) (s : State) :
    State.Queues (if pending.getLsbD 7 || pending.getLsbD 8 then [.fatalError (fatalKind pending)] else [])
      (if pending.getLsbD 7 || pending.getLsbD 8 then s.faultEvents (fatalKind pending) else [])
      (if pending.getLsbD 7 || pending.getLsbD 8 then s.faultWork (fatalKind pending) else [])
      s (handleFatal (pending &&& fatalMask) s) := by
  have hkind : (if (pending &&& fatalMask).getLsbD 7 then ErrKind.axiBus else .errIrq) = fatalKind pending := by
    simp [fatalKind, getLsbD_fatalMask]
  cases hfatal : pending.getLsbD 7 || pending.getLsbD 8 with
  | false =>
    rw [(and_fatalMask_eq_zero pending).2 hfatal]
    exact .of_eq rfl rfl rfl rfl
  | true =>
    have hne : pending &&& fatalMask ≠ 0#32 := fun h =>
      Bool.noConfusion (((and_fatalMask_eq_zero pending).1 h).symm.trans hfatal)
    have hreport : State.Queues [.fatalError (fatalKind pending)] [] [] s
        ((s.logDiag (.fatalError (fatalKind pending))).maskFatal (pending &&& fatalMask)) :=
      ⟨by simp, by simp, rfl, rfl⟩
    have hfault : State.Queues [] (s.faultEvents (fatalKind pending)) (s.faultWork (fatalKind pending))
        ((s.logDiag (.fatalError (fatalKind pending))).maskFatal (pending &&& fatalMask)) _ :=
      queueFault_queues ((s.logDiag (.fatalError (fatalKind pending))).maskFatal (pending &&& fatalMask)) _
    simp only [handleFatal, if_neg hne, hkind, if_true]
    exact hreport.trans hfault

/-- The underflow part of handler entry: one diagnostic (R452). -/
theorem handleUnderflow_queues (pending : Word) (s : State) :
    State.Queues (if pending.getLsbD 6 then [.lostFrame] else []) [] [] s (handleUnderflow pending s) := by
  unfold handleUnderflow
  cases pending.getLsbD 6 with
  | false => exact .of_eq rfl rfl rfl rfl
  | true => exact ⟨by simp, by simp, rfl, rfl⟩

theorem handleInfo_queues (pending : Word) (i : Nat) (s : State) :
    State.Queues [] [] [] s (handleInfo pending i s) :=
  .of_eq (by simp) (by simp) (by simp) (by simp)

/-- The event of a layer's frame-done callback, if its frame-done is pending and a callback registered (R455). -/
def State.doneEvents (s : State) (snapshot pending : Word) (l : Layer) : List CallbackEvent :=
  if pending.getLsbD (layerNo l) && (s.cb.frame.get l).isSome then
    [.frameDoneCb l (channelOfBit (snapshot.getLsbD (doneChannelBit l)))]
  else []

/-- The operations of a layer's frame-done callback, likewise (R455). -/
def State.doneWork (s : State) (snapshot pending : Word) (l : Layer) : List Action :=
  (s.cb.frame.get l).elim [] fun id =>
    if pending.getLsbD (layerNo l) then
      (s.prog.frameCallback id l (channelOfBit (snapshot.getLsbD (doneChannelBit l)))).map .op
    else []

/-- The frame-done part of handler entry for one layer: its callback (R452, R455). -/
theorem handleDone_queues (snapshot pending : Word) (l : Layer) (s : State) :
    State.Queues [] (s.doneEvents snapshot pending l) (s.doneWork snapshot pending l) s
      (handleDone snapshot pending l s) := by
  unfold handleDone State.queueDone State.doneEvents State.doneWork
  cases pending.getLsbD (layerNo l) with
  | false => cases s.cb.frame.get l <;> exact .of_eq rfl rfl rfl rfl
  | true =>
    simp only [State.clearStatus_cb, if_true, Bool.true_and]
    cases s.cb.frame.get l with
    | none => exact .of_eq rfl rfl rfl rfl
    | some id => exact ⟨by simp, rfl, rfl, rfl⟩

theorem queueDefault_queues (need : Bool) (s : State) :
    State.Queues [] [] (if need then [.defaultStart] else []) s (queueDefault need s) := by
  cases need with
  | false => exact .of_eq rfl rfl rfl rfl
  | true => exact ⟨by simp [queueDefault], rfl, rfl, rfl⟩

/-- The callbacks and the host program stay through handler entry, so its parts see the same ones. -/
theorem State.Queues.doneLists {d : List DiagEvent} {e : List CallbackEvent} {w : List Action} {s t : State}
    (h : State.Queues d e w s t) : t.doneEvents = s.doneEvents ∧ t.doneWork = s.doneWork := by
  constructor
  · funext snapshot pending l
    rw [State.doneEvents, State.doneEvents, h.cb]
  · funext snapshot pending l
    rw [State.doneWork, State.doneWork, h.cb, h.prog]

/-- The frame-done parts of handler entry, layer by layer (R452). -/
theorem handleDone_all_queues (snapshot pending : Word) (s : State) :
    State.Queues [] ([Layer.fg, .bg, .wb, .sp].flatMap (s.doneEvents snapshot pending))
      ([Layer.fg, .bg, .wb, .sp].flatMap (s.doneWork snapshot pending)) s
      (handleDone snapshot pending .sp (handleDone snapshot pending .wb
        (handleDone snapshot pending .bg (handleDone snapshot pending .fg s)))) := by
  have hfg := handleDone_queues snapshot pending .fg s
  have hbg := hfg.trans (handleDone_queues snapshot pending .bg _)
  have hwb := hbg.trans (handleDone_queues snapshot pending .wb _)
  have hsp := hwb.trans (handleDone_queues snapshot pending .sp _)
  simpa only [hfg.doneLists, hbg.doneLists, hwb.doneLists, List.flatMap_cons, List.flatMap_nil, List.append_nil,
    List.nil_append, List.append_assoc] using hsp

/-- What handler entry logs and queues (R452, R455, R456). -/
theorem handlerEntry_queues (s : State) (pending : Word) (hp : pending = s.irq.status &&& s.irq.enable) :
    State.Queues
      ((if pending.getLsbD 7 || pending.getLsbD 8 then [.fatalError (fatalKind pending)] else [])
        ++ (if pending.getLsbD 6 then [.lostFrame] else []))
      ((if pending.getLsbD 7 || pending.getLsbD 8 then s.faultEvents (fatalKind pending) else [])
        ++ [Layer.fg, .bg, .wb, .sp].flatMap (s.doneEvents s.irq.status pending))
      ((if pending.getLsbD 7 || pending.getLsbD 8 then s.faultWork (fatalKind pending) else [])
        ++ [Layer.fg, .bg, .wb, .sp].flatMap (s.doneWork s.irq.status pending)
        ++ (if needDefault pending s then [.defaultStart] else []))
      s.enterHandler (handlerEntry s) := by
  subst hp
  have hfatal := handleFatal_queues (s.irq.status &&& s.irq.enable) s.enterHandler
  have hinfo := ((hfatal.trans (handleUnderflow_queues (s.irq.status &&& s.irq.enable) _)).trans
    (handleInfo_queues (s.irq.status &&& s.irq.enable) 5 _)).trans
    (handleInfo_queues (s.irq.status &&& s.irq.enable) 4 _)
  have hdone := (hinfo.trans (handleDone_all_queues s.irq.status (s.irq.status &&& s.irq.enable) _)).trans
    (queueDefault_queues (needDefault (s.irq.status &&& s.irq.enable) s) _)
  simpa only [hinfo.doneLists, List.append_nil] using! hdone

/-- Settles O47, by `handlerEntry_queues`: the logs and the work begin with those of `State.enterHandler`. -/
theorem handlerEntryQueues : Obligations.HandlerEntryQueues := by
  intro s hidle hpending
  refine ⟨handlerEntry s, isrStep_of_line_high hidle (State.irqLine_of_pending hpending), ?_⟩
  obtain ⟨hlogs, hwork, -, -⟩ := handlerEntry_queues s _ rfl
  have hfaultEvents (fatal : Bool) (kind : ErrKind) : (if fatal then s.faultEvents kind else [])
      = if fatal && s.cb.fault.isSome then [.faultCb kind] else [] := by
    cases fatal <;> rfl
  have hfaultWork (fatal : Bool) (kind : ErrKind) : (if fatal then s.faultWork kind else [])
      = s.cb.fault.elim [] fun id => if fatal then (s.prog.faultCallback id kind).map .op else [] := by
    rw [State.faultWork]
    cases fatal <;> cases s.cb.fault <;> rfl
  refine ⟨?logs, ?work⟩
  case logs =>
    rw [hlogs, hfaultEvents]
    simp only [List.append_assoc]
    rfl
  case work =>
    have hstart : s.enterHandler.isr.work = [] := rfl
    rw [hwork, hfaultWork, hstart, List.nil_append]
    refine congrArg₂ (· ++ ·) (congrArg₂ (· ++ ·) ?fault (congrArg (List.flatMap · _) (funext fun l => ?done))) rfl
    case fault => cases s.cb.fault <;> rfl
    case done =>
      rw [State.doneWork]
      cases s.cb.frame.get l <;> rfl

end Sys2Proof.Machine
end

section
/-! The steps that leave the hardware alone: the HOST's waits, the handler's own steps, the tick, and the book-keeping
of a step. What every step keeps then needs an argument for the operations, LINK, SCAN, ENV and the producer only. -/

namespace Sys2Proof.Machine

/-- Between two states no register, layer, frame or memory field changes, the link loses at most bytes of its FIFO, and
the logs only get diagnostics and callback events. -/
structure State.SameHardware (s t : State) : Prop where
  dsi : t.dsi = s.dsi
  tim : t.tim = s.tim
  layers : t.layers = s.layers
  frame : t.frame = s.frame
  mem : t.mem = s.mem
  windows : t.windows = s.windows
  link : t.link = { s.link with rxFifo := t.link.rxFifo }
  fifo : t.link.rxFifo.length ≤ s.link.rxFifo.length
  wire : t.logs.wire = s.logs.wire
  frames : t.logs.frames = s.logs.frames
  diag : s.logs.diag <+: t.logs.diag
  events : s.logs.events <+: t.logs.events

theorem State.SameHardware.of_eq {s t : State} (hdsi : t.dsi = s.dsi := by simp) (htim : t.tim = s.tim := by simp)
    (hlayers : t.layers = s.layers := by simp) (hframe : t.frame = s.frame := by simp)
    (hmem : t.mem = s.mem := by simp) (hwindows : t.windows = s.windows := by simp)
    (hlink : t.link = s.link := by simp) (hlogs : t.logs = s.logs := by simp) : s.SameHardware t where
  dsi := hdsi
  tim := htim
  layers := hlayers
  frame := hframe
  mem := hmem
  windows := hwindows
  link := by rw [hlink]
  fifo := by rw [hlink]
  wire := by rw [hlogs]
  frames := by rw [hlogs]
  diag := by rw [hlogs]
  events := by rw [hlogs]

theorem readPoll_sameHardware (cmd len : Byte) (t0 : Nat) (buf : List Byte) (s : State) :
    s.SameHardware (readPoll cmd len t0 buf s) := by
  rw [readPoll_eq]
  split_ifs with herror htake
  · exact .of_eq rfl rfl rfl rfl rfl rfl rfl rfl
  · exact ⟨rfl, rfl, rfl, rfl, rfl, rfl, rfl, by simp, rfl, rfl, List.prefix_rfl, List.prefix_rfl⟩
  · exact .of_eq rfl rfl rfl rfl rfl rfl rfl rfl
  · exact .of_eq rfl rfl rfl rfl rfl rfl rfl rfl
  · exact .of_eq rfl rfl rfl rfl rfl rfl rfl rfl

theorem readDrain_sameHardware (len : Byte) (buf : List Byte) (s : State) : s.SameHardware (readDrain len buf s) := by
  rw [readDrain_eq]
  exact ⟨rfl, rfl, rfl, rfl, rfl, rfl, rfl, Nat.zero_le _, rfl, rfl, List.prefix_append _ _, List.prefix_rfl⟩

theorem ulpsEnterWait_sameHardware (t0 : Nat) (s : State) : s.SameHardware (ulpsEnterWait t0 s) := by
  unfold ulpsEnterWait
  split_ifs
  · exact .of_eq
  · exact ⟨rfl, rfl, rfl, rfl, rfl, rfl, rfl, le_rfl, rfl, rfl, List.prefix_append _ _, List.prefix_rfl⟩
  · exact .of_eq

theorem handlerEntry_sameHardware (s : State) : s.SameHardware (handlerEntry s) := by
  have hlogs := (handlerEntry_queues s _ rfl).logs
  refine ⟨by simp, by simp, by simp, by simp, by simp, by simp, by simp, by simp, ?_, ?_, ?_, ?_⟩ <;> rw [hlogs]
  · rfl
  · rfl
  · exact List.prefix_append _ _
  · exact List.prefix_append _ _

/-- What every step keeps, when it speaks of the hardware alone. -/
theorem step_keeps_of_sameHardware {P : State → Prop} (same : ∀ s t, s.SameHardware t → P s → P t)
    (op : ∀ i s t, P s → exec i s = .next t → P t)
    (link : ∀ s, P s → P (linkStep s))
    (scan : ∀ s, P s → P (scanStep s))
    (env : ∀ e s, P s → P (envStep e s))
    (pixel : ∀ a b s, P s → P (producerWrite a b s))
    {s t : State} (hs : P s) (h : step s = .next t) : P t :=
  step_keeps
    (pop := fun s hs => same s _ (.of_eq rfl rfl rfl rfl rfl rfl rfl rfl) hs)
    (op := op)
    (words := fun s _ hs => same s _ .of_eq hs)
    (work := fun _ t _ ht => same t _ .of_eq ht)
    (poll := fun _ _ _ _ s hs => same s _ (readPoll_sameHardware _ _ _ _ s) hs)
    (drain := fun _ _ s hs => same s _ (readDrain_sameHardware _ _ s) hs)
    (enterWait := fun _ s hs => same s _ (ulpsEnterWait_sameHardware _ s) hs)
    (exitWait := fun _ s hs => same s _ .of_eq hs)
    (entry := fun s hs => same s _ (handlerEntry_sameHardware s) hs)
    (ret := fun s hs _ => same s _ .of_eq hs)
    (link := link) (scan := scan)
    (timer := fun s hs => same s _ .of_eq hs)
    (env := env) (pixel := pixel) hs h

end Sys2Proof.Machine
end

section
/-! Framebuffer memory keeps its canonical form. -/

namespace Sys2Proof.Machine

theorem Memory.wf_aborted {s : State} (h : Memory.wf s.mem) (k : ErrKind) (c : Cause) : Memory.wf (s.aborted k c).mem :=
  State.endInFlight_wf _ h

theorem exec_wf {i : Instr} {s t : State} (hs : Memory.wf s.mem) (h : exec i s = .next t) : Memory.wf t.mem := by
  cases i with
  | lcdcReset =>
    cases h
    rw [(panelReset_logs_mem s).2]
    exact State.endInFlight_wf _ hs
  | _ =>
    cases h
    simpa using hs

theorem scanStep_wf {s : State} (hs : Memory.wf s.mem) : Memory.wf (scanStep s).mem := by
  have h := scanStep_after s
  generalize scanStep s = t at h ⊢
  cases h with
  | kept => exact hs
  | fault => exact hs
  | latchFault => exact hs
  | begins mode ls =>
    rw [beginScan, State.enterScan_mem]
    exact State.forgetWb_wf _ hs
  | ends sc =>
    have hmem : (frameEnd sc s).mem = ((completeLayers sc s).forgetWb sc).mem := by simp [frameEnd]
    rw [hmem]
    exact State.forgetWb_wf _ (by simpa using hs)

theorem envStep_wf (e : EnvEvent) {s : State} (hs : Memory.wf s.mem) : Memory.wf (envStep e s).mem := by
  have h := envStep_after e s
  generalize envStep e s = t at h ⊢
  cases h with
  | abort k c => exact Memory.wf_aborted hs k c
  | _ => simpa using hs

theorem producerWrite_wf (a : Word) (b : Byte) {s : State} (hs : Memory.wf s.mem) :
    Memory.wf (producerWrite a b s).mem := by
  cases hscan : s.frame.scan with
  | none =>
    rw [producerWrite_of_none hscan]
    exact Memory.wf_write hs a.isLt
  | some sc =>
    rw [producerWrite_of_scan hscan]
    dsimp only
    split_ifs
    · exact Memory.wf_forget _ _ hs
    · exact Memory.wf_write hs a.isLt

/-- Settles O52. -/
theorem stepKeepsMemoryCanonical : Obligations.StepKeepsMemoryCanonical := fun _ _ hs h =>
  step_keeps_of_sameHardware (P := fun s => Memory.wf s.mem)
    (same := fun _ _ hsame hs => hsame.mem ▸ hs)
    (op := fun _ _ _ hs h => exec_wf hs h)
    (link := fun s hs => by simpa using hs)
    (scan := fun _ hs => scanStep_wf hs)
    (env := fun e _ hs => envStep_wf e hs)
    (pixel := fun a b _ hs => producerWrite_wf a b hs) hs h

end Sys2Proof.Machine
end

section
/-! What a LINK step can do, and what an operation can do to the status word, said once. -/

namespace Sys2Proof.Machine

/-- What a LINK step can do (R239 to R241, R262, R267). It does nothing only with no job, or with the bus turned
around, in any shape the link can have. -/
inductive LinkStepAfter (s : State) : State → Prop where
  | kept (hidle : linkShape s.link.data s.link.job s.link.ulps = true → s.link.job = none ∨ s.link.data = .bta) :
      LinkStepAfter s s
  | begins (hjob : (∃ p, s.link.job = some (.txPkt p)) ∨ ∃ p, s.link.job = some (.txRead p))
      (hdata : s.link.data = .stop) : LinkStepAfter s { s with link := { s.link with data := .lpTx } }
  | sent (p : Packet) (hjob : s.link.job = some (.txPkt p)) (hdata : s.link.data = .lpTx) :
      LinkStepAfter s (linkSent p s)
  | turned (p : Packet) (hjob : s.link.job = some (.txRead p)) (hdata : s.link.data = .lpTx) :
      LinkStepAfter s (linkTurn p s)
  | entered (hjob : s.link.job = some .ulpsEnter) (hdata : s.link.data = .stop) : LinkStepAfter s (linkUlpsEnter s)
  | exited (hjob : s.link.job = some .ulpsExit) (hdata : s.link.data = .ulps) : LinkStepAfter s (linkUlpsExit s)

theorem linkStep_after (s : State) : LinkStepAfter s (linkStep s) := by
  unfold linkStep
  split
  next p hjob hdata => exact .begins (.inl ⟨p, hjob⟩) hdata
  next p hjob hdata => exact .begins (.inr ⟨p, hjob⟩) hdata
  next p hjob hdata => exact .sent p hjob hdata
  next p hjob hdata => exact .turned p hjob hdata
  next hjob hdata => exact .entered hjob hdata
  next hjob hdata => exact .exited hjob hdata
  next h1 h2 h3 h4 h5 h6 =>
    refine .kept fun hshape => ?_
    revert hshape h1 h2 h3 h4 h5 h6
    generalize s.link.job = job
    generalize s.link.data = data
    rcases job with _ | ⟨_ | _ | _ | _⟩ <;> cases data <;> simp [linkShape]

/-- What a host operation can do to the status word (R70 to R72, R416, R421): it clears bits, the fatal ones only in an
acknowledgement or a reset, or it records a TE pulse. -/
inductive StatusAfter (i : Instr) (s t : State) : Prop where
  | clears (m : Word) (hfatal : i = .lcdcErrorClr ∨ i = .lcdcReset ∨ m &&& fatalMask = 0#32)
      (h : t.irq.status = s.irq.status &&& ~~~m)
  | pulse (h : t.irq.status = s.irq.status ||| 0x00000020#32)

theorem StatusAfter.kept {i : Instr} {s t : State} (h : t.irq.status = s.irq.status) : StatusAfter i s t :=
  .clears 0#32 (.inr (.inr (BitVec.zero_and))) (by rw [h, BitVec.not_zero, BitVec.and_allOnes])

theorem StatusAfter.of_onlyMarks {i : Instr} {s t : State} (h : s.OnlyMarks t) : StatusAfter i s t := by
  obtain ⟨f, r, rfl⟩ := h
  exact .kept rfl

theorem Job.clears_fatal (j : Job) : j.clears &&& fatalMask = 0#32 := by
  cases j <;> simp only [Job.clears] <;> decide

/-- The DSI error bits are not fatal causes. -/
theorem dsiErrors_fatal (w : Word) : w &&& dsiErrorMask &&& fatalMask = 0#32 := by
  have hdisjoint : dsiErrorMask &&& fatalMask = 0#32 := by decide
  rw [BitVec.and_assoc, hdisjoint, BitVec.and_zero]

theorem errorClr_irq (s : State) : (errorClr s).irq = s.irq.acknowledged := by
  by_cases hfsm : ∃ k, s.frame.fsm = .error k
  · obtain ⟨k, hfsm⟩ := hfsm
    rw [errorClr_of_error hfsm]
  · rw [errorClr_of_ne_error (not_exists.1 hfsm)]

/-- What each host operation does to the status word. -/
theorem exec_status {i : Instr} {s t : State} (h : exec i s = .next t) : StatusAfter i s t := by
  cases i with
  | dsiInit lanes mode bitClock pixelClock =>
    cases h
    rcases dsiInit_cases lanes mode bitClock pixelClock s with hmarks | ⟨_, _, n, hinit⟩
    · exact .of_onlyMarks hmarks
    · exact .clears dsiStatusMask (.inr (.inr (by decide))) (by rw [hinit]; rfl)
  | dsiSend cmd params =>
    cases h
    rcases dsiSend_cases cmd params s with hmarks | ⟨_, p, _, hsend⟩
    · exact .of_onlyMarks hmarks
    · exact .clears (Job.txPkt p).clears (.inr (.inr (Job.clears_fatal _)))
        (by rw [hsend, State.startJob_eq, State.wrPushAll_eq]; rfl)
  | dsiRead cmd len =>
    cases h
    rcases dsiRead_cases cmd len s with hmarks | ⟨_, p, ph, hread⟩
    · exact .of_onlyMarks hmarks
    · exact .clears (Job.txRead p).clears (.inr (.inr (Job.clears_fatal _))) (by rw [hread, State.startJob_eq]; rfl)
  | dsiUlpsEnter =>
    cases h
    rcases dsiUlpsEnter_cases s with hmarks | ⟨_, _, henter⟩
    · exact .of_onlyMarks hmarks
    · exact .clears 0x00001000#32 (.inr (.inr (by decide))) (by rw [henter])
  | dsiUlpsExit =>
    cases h
    rcases dsiUlpsExit_cases s with hmarks | ⟨_, _, hexit⟩
    · exact .of_onlyMarks hmarks
    · exact .clears 0x00001000#32 (.inr (.inr (by decide))) (by rw [hexit])
  | dsiClearError w =>
    cases h
    exact .clears (w &&& dsiErrorMask) (.inr (.inr (dsiErrors_fatal w))) (w1c_dsiErrors _ w)
  | lcdcTeTrigger => cases h; exact .pulse (by rw [State.tePulse_eq]; rfl)
  | lcdcErrorClr => cases h; exact .clears fatalMask (.inl rfl) (by rw [errorClr_irq, Irq.acknowledged])
  | lcdcReset => cases h; exact .clears lcdcStatusMask (.inr (.inl rfl)) (by simp [panelReset])
  | dsiTeirqEnable => cases h; exact .kept rfl
  | dsiTeirqDisable => cases h; exact .kept rfl
  | irqEnable mask => cases h; exact .kept rfl
  | irqDisable => cases h; exact .kept rfl
  | _ => cases h; exact .kept (by simp)

end Sys2Proof.Machine
end

section
/-! R470: time. -/

namespace Sys2Proof.Machine

/-- Of the agents only the TIMER changes the tick. -/
theorem runChoice_now {c : Choice} {s t : State} (hc : c ≠ .timer) (h : runChoice c s = .next t) : t.now = s.now := by
  cases c with
  | timer => exact absurd rfl hc
  | host =>
    rcases hostStep_cases h with rfl | ⟨i, rest, u, _, hu, rfl, _⟩ | ⟨cmd, len, t0, buf, _, rfl⟩ |
      ⟨cmd, len, t0, buf, _, rfl⟩ | ⟨t0, _, rfl⟩ | ⟨t0, _, rfl⟩
    · rfl
    · obtain ⟨_, hnow, _⟩ := exec_frame hu
      rw [← hnow, consume]
      split_ifs <;> simp
    all_goals simp
  | isr =>
    rcases isrStep_cases h with rfl | ⟨_, _, rfl⟩ | ⟨_, _, rfl⟩ | ⟨a, rest, u, _, _, hu, rfl⟩
    · rfl
    · simp
    · simp
    · obtain ⟨_, hnow, _⟩ := exec_frame hu
      simp [hnow]
  | rawAccess a n => cases h
  | _ =>
    cases h
    simp

/-- Settles O49. -/
theorem onlyTimerAdvancesTime : Obligations.OnlyTimerAdvancesTime := by
  refine ⟨fun s => rfl, fun s t h hc => ?_⟩
  rw [step_eq] at h
  split at h
  · cases h
  · exact runChoice_now (s := s.popChoice) hc h

end Sys2Proof.Machine
end

section
/-! R100: the logs. -/

namespace Sys2Proof.Machine

/-- Between two states the four logs only grow. -/
structure State.LogsGrow (s t : State) : Prop where
  wire : s.logs.wire <+: t.logs.wire
  frames : s.logs.frames <+: t.logs.frames
  diag : s.logs.diag <+: t.logs.diag
  events : s.logs.events <+: t.logs.events

theorem State.LogsGrow.trans {s t u : State} (hst : s.LogsGrow t) (htu : t.LogsGrow u) : s.LogsGrow u :=
  ⟨hst.wire.trans htu.wire, hst.frames.trans htu.frames, hst.diag.trans htu.diag, hst.events.trans htu.events⟩

theorem State.LogsGrow.of_eq {s t : State} (h : t.logs = s.logs) : s.LogsGrow t := by
  constructor <;> rw [h]

theorem State.LogsGrow.of_wire {s t : State} {w : List WireEvent}
    (h : t.logs = { s.logs with wire := s.logs.wire ++ w }) : s.LogsGrow t := by
  constructor <;> rw [h]
  exact List.prefix_append _ _

theorem State.LogsGrow.of_frames {s t : State} {f : List FrameRecord}
    (h : t.logs = { s.logs with frames := s.logs.frames ++ f }) : s.LogsGrow t := by
  constructor <;> rw [h]
  exact List.prefix_append _ _

theorem State.LogsGrow.of_endInFlight {s t : State} {o : FrameOutcome} (h : t.logs = (s.endInFlight o).logs) :
    s.LogsGrow t := by
  cases hscan : s.frame.scan with
  | none => exact .of_eq (by rw [h, State.endInFlight_of_none hscan])
  | some sc => exact .of_frames (by rw [h, State.endInFlight_of_scan hscan])

theorem exec_logsGrow {i : Instr} {s t : State} (h : exec i s = .next t) : s.LogsGrow t := by
  rcases (exec_frameMachine h).2 with hlogs | ⟨hlogs, _⟩
  · exact .of_eq hlogs
  · exact .of_endInFlight hlogs

theorem linkStep_logsGrow (s : State) : s.LogsGrow (linkStep s) := by
  have h := linkStep_after s
  generalize linkStep s = t at h ⊢
  cases h with
  | kept => exact .of_eq rfl
  | begins => exact .of_eq rfl
  | sent p => exact .of_wire (by rw [linkSent_eq])
  | turned p => exact .of_wire (by rw [linkTurn_eq])
  | entered => exact .of_wire (by rw [linkUlpsEnter_eq, List.append_assoc])
  | exited => exact .of_wire (by rw [linkUlpsExit_eq])

theorem scanStep_logsGrow (s : State) : s.LogsGrow (scanStep s) := by
  have h := scanStep_after s
  generalize scanStep s = t at h ⊢
  cases h with
  | kept => exact .of_eq rfl
  | fault => exact .of_eq rfl
  | latchFault => exact .of_eq rfl
  | begins mode ls => exact .of_wire (by rw [beginScan_eq]; rfl)
  | ends sc => exact .of_frames (by rw [frameEnd_eq])

theorem envStep_logsGrow (e : EnvEvent) (s : State) : s.LogsGrow (envStep e s) := by
  have h := envStep_after e s
  generalize envStep e s = t at h ⊢
  cases h with
  | response => exact .of_wire rfl
  | abort k c => exact .of_endInFlight rfl
  | _ => exact .of_eq (by simp)

/-- Settles O60. -/
theorem logsOnlyGrow : Obligations.LogsOnlyGrow := by
  refine ⟨rfl, fun s t h => ?_⟩
  obtain ⟨hwire, hframes, hdiag, hevents⟩ := step_keeps_of_sameHardware (P := s.LogsGrow)
    (same := fun _ _ hsame hs =>
      hs.trans ⟨by rw [hsame.wire], by rw [hsame.frames], hsame.diag, hsame.events⟩)
    (op := fun _ _ _ hs h => hs.trans (exec_logsGrow h))
    (link := fun u hs => hs.trans (linkStep_logsGrow u))
    (scan := fun u hs => hs.trans (scanStep_logsGrow u))
    (env := fun e u hs => hs.trans (envStep_logsGrow e u))
    (pixel := fun a b u hs => hs.trans (.of_eq (by simp))) (State.LogsGrow.of_eq rfl) h
  exact ⟨hwire, hframes, hdiag, hevents⟩

end Sys2Proof.Machine
end

section
/-! R454: a recorded fatal cause stays. -/

namespace Sys2Proof.Machine

/-- Bits outside a mask stay when the mask is cleared. -/
theorem getLsbD_and_not_of_clear {w m : Word} {j : Nat} (hm : m.getLsbD j = false) :
    (w &&& ~~~m).getLsbD j = w.getLsbD j := by
  by_cases hj : j < 32
  · rw [BitVec.getLsbD_and, BitVec.getLsbD_not, hm, decide_eq_true hj]
    simp
  · rw [BitVec.getLsbD_of_ge _ _ (by omega), BitVec.getLsbD_of_ge _ _ (by omega)]

theorem getLsbD_or_of_set {w m : Word} {j : Nat} (h : w.getLsbD j = true) : (w ||| m).getLsbD j = true := by
  rw [BitVec.getLsbD_or, h, Bool.true_or]

/-- A mask without fatal causes has neither of their bits. -/
theorem getLsbD_of_and_fatalMask {m : Word} (hm : m &&& fatalMask = 0#32) {j : Nat} (hj : j = 7 ∨ j = 8) :
    m.getLsbD j = false := by
  have hfatal : fatalMask.getLsbD j = true := by
    rw [getLsbD_fatalMask]
    simpa using hj
  have hbit : (m &&& fatalMask).getLsbD j = false := by rw [hm, BitVec.getLsbD_zero]
  rwa [BitVec.getLsbD_and, hfatal, Bool.and_true] at hbit

section Fatal

variable {j : Nat} (hj : j = 7 ∨ j = 8)
include hj

theorem exec_fatal {i : Instr} {s t : State} (hclr : i ≠ .lcdcErrorClr) (hreset : i ≠ .lcdcReset)
    (h : exec i s = .next t) (hs : s.irq.status.getLsbD j = true) : t.irq.status.getLsbD j = true := by
  cases exec_status h with
  | clears m hfatal ht =>
    have hm : m &&& fatalMask = 0#32 := (hfatal.resolve_left hclr).resolve_left hreset
    rw [ht, getLsbD_and_not_of_clear (getLsbD_of_and_fatalMask hm hj), hs]
  | pulse ht => rw [ht, getLsbD_or_of_set hs]

theorem handlerEntry_fatal {s : State} (hs : s.irq.status.getLsbD j = true) :
    (handlerEntry s).irq.status.getLsbD j = true := by
  rw [getLsbD_handlerEntry_status, hs, decide_eq_false (by omega)]
  rfl

theorem scanStep_fatal {s : State} (hs : s.irq.status.getLsbD j = true) :
    (scanStep s).irq.status.getLsbD j = true := by
  have h := scanStep_after s
  generalize scanStep s = t at h ⊢
  cases h with
  | kept => exact hs
  | fault => exact hs
  | latchFault => exact hs
  | begins mode ls =>
    rw [beginScan_eq]
    exact getLsbD_or_of_set hs
  | ends sc =>
    rw [frameEnd_eq]
    exact (getLsbD_completeLayers_other sc s (by omega)).trans hs

omit hj in
theorem linkStep_status_set {s : State} (hs : s.irq.status.getLsbD j = true) :
    (linkStep s).irq.status.getLsbD j = true := by
  have h := linkStep_after s
  generalize linkStep s = t at h ⊢
  cases h with
  | kept => exact hs
  | begins => exact hs
  | sent p =>
    rw [linkSent_eq]
    exact getLsbD_or_of_set hs
  | turned p =>
    rw [linkTurn_eq]
    exact hs
  | entered =>
    rw [linkUlpsEnter_eq]
    exact getLsbD_or_of_set hs
  | exited =>
    rw [linkUlpsExit_eq]
    exact getLsbD_or_of_set hs

omit hj in
theorem envStep_status_set (e : EnvEvent) {s : State} (hs : s.irq.status.getLsbD j = true) :
    (envStep e s).irq.status.getLsbD j = true := by
  have hcause (u : State) (c : Cause) (hu : u.irq.status.getLsbD j = true) :
      (u.setCause c).irq.status.getLsbD j = true := by
    rw [State.setCause_eq]
    exact getLsbD_or_of_set hu
  have h := envStep_after e s
  generalize envStep e s = t at h ⊢
  cases h with
  | kept => exact hs
  | byte => exact hs
  | response => exact hcause _ _ hs
  | failure c => exact hcause _ _ hs
  | pulse =>
    rw [State.tePulse_eq]
    exact getLsbD_or_of_set hs
  | lost => exact getLsbD_or_of_set hs
  | abort => exact getLsbD_or_of_set hs
  | paused => exact getLsbD_or_of_set hs

/-- No step of another agent than the HOST and the handler clears a fatal cause. -/
theorem runChoice_fatal {c : Choice} {s t : State} (hhost : c ≠ .host) (hisr : c ≠ .isr) (h : runChoice c s = .next t)
    (hs : s.irq.status.getLsbD j = true) : t.irq.status.getLsbD j = true := by
  cases c with
  | host => exact absurd rfl hhost
  | isr => exact absurd rfl hisr
  | link => cases h; exact linkStep_status_set hs
  | scan => cases h; exact scanStep_fatal hj hs
  | timer => cases h; exact hs
  | env e => cases h; exact envStep_status_set e hs
  | pixelWrite a b => cases h; simpa using hs
  | rawAccess a n => cases h

/-- Nor does one of the HOST, unless it performs one of the two operations that may. -/
theorem hostStep_fatal {s t : State} (h : hostStep s = .next t)
    (hop : ∀ i rest, s.isr.active = false → s.phase = .ready → decode s.prog.words = .ok (i, rest) →
      i ≠ .lcdcErrorClr ∧ i ≠ .lcdcReset)
    (hs : s.irq.status.getLsbD j = true) : t.irq.status.getLsbD j = true := by
  rcases hostStep_cases h with rfl | ⟨i, rest, u, hdecode, hu, rfl, hidle, hphase⟩ | ⟨cmd, len, t0, buf, _, rfl⟩ |
    ⟨cmd, len, t0, buf, _, rfl⟩ | ⟨t0, _, rfl⟩ | ⟨t0, _, rfl⟩
  · exact hs
  · obtain ⟨hclr, hreset⟩ := hop i rest hidle hphase hdecode
    have hbit := exec_fatal hj hclr hreset hu hs
    rw [consume]
    split_ifs
    · exact hbit
    · exact hbit
  all_goals simpa using hs

/-- Nor does one of the handler, likewise. -/
theorem isrStep_fatal {s t : State} (h : isrStep s = .next t)
    (hop : ∀ a rest, s.isr.active = true → s.isr.work = a :: rest → a.instr ≠ .lcdcErrorClr ∧ a.instr ≠ .lcdcReset)
    (hs : s.irq.status.getLsbD j = true) : t.irq.status.getLsbD j = true := by
  rcases isrStep_cases h with rfl | ⟨_, _, rfl⟩ | ⟨_, _, rfl⟩ | ⟨a, rest, u, hactive, hwork, hu, rfl⟩
  · exact hs
  · exact handlerEntry_fatal hj hs
  · exact hs
  · obtain ⟨hclr, hreset⟩ := hop a rest hactive hwork
    simpa using exec_fatal hj hclr hreset hu hs

theorem step_fatal {s t : State} (hclr : ¬ s.performs .lcdcErrorClr) (hreset : ¬ s.performs .lcdcReset)
    (h : step s = .next t) (hs : s.irq.status.getLsbD j = true) : t.irq.status.getLsbD j = true := by
  have hop {i : Instr} (hi : s.performs i) : i ≠ .lcdcErrorClr ∧ i ≠ .lcdcReset :=
    ⟨fun h => hclr (h ▸ hi), fun h => hreset (h ▸ hi)⟩
  rw [step_eq] at h
  split at h
  · cases h
  by_cases hhost : nextChoice s = .host
  · rw [hhost] at h
    exact hostStep_fatal hj (s := s.popChoice) h
      (fun i rest hidle hphase hdecode => hop (.inl ⟨hhost, hidle, hphase, rest, hdecode⟩)) hs
  by_cases hisr : nextChoice s = .isr
  · rw [hisr] at h
    exact isrStep_fatal hj (s := s.popChoice) h
      (fun a rest hactive hwork => hop (.inr ⟨hisr, hactive, a, rest, hwork, rfl⟩)) hs
  · exact runChoice_fatal hj hhost hisr h hs

end Fatal

/-- Settles O45, kind of step by kind of step. -/
theorem fatalStaysUntilAcknowledged : Obligations.FatalStaysUntilAcknowledged := fun _ _ _ hj hs =>
  ⟨fun hclr hreset h => step_fatal hj hclr hreset h hs, fun _ hclr hreset h => exec_fatal hj hclr hreset h hs,
    fun _ hhost hisr h => runChoice_fatal hj hhost hisr h hs, handlerEntry_fatal hj hs⟩

end Sys2Proof.Machine
end

section
/-! R352: the addresses of the layers and of the frame in flight. -/

namespace Sys2Proof.Machine

theorem validFb_iff (ws : List Window) (a : Word) : validFb ws a = true ↔ validAddress ws a := by
  rw [validFb, validAddress, Bool.and_eq_true, decide_eq_true_iff]
  rfl

/-- Every address a layer channel holds is valid. -/
def layersValid (ws : List Window) (layers : PerLayer LayerState) : Prop :=
  ∀ l c a, (layers.get l).addr c = some a → validAddress ws a

/-- Every address of a scan set is valid. -/
def scanSetValid (ws : List Window) (ls : PerLayer (Option ScanEntry)) : Prop :=
  ∀ l e, ls.get l = some e → validAddress ws e.addr

/-- What a frame in flight keeps from its begin on: its number and its scan set (R91). -/
def Scan.begun (sc : Scan) : Nat × PerLayer (Option ScanEntry) := (sc.k, sc.layers)

theorem State.addressInv_iff (s : State) :
    s.AddressInv ↔ layersValid s.windows s.layers
      ∧ ∀ x, s.frame.scan.map Scan.begun = some x → scanSetValid s.windows x.2 := by
  simp only [State.AddressInv, layersValid, scanSetValid, Option.map_eq_some_iff]
  exact and_congr_right fun _ => ⟨by rintro h _ ⟨sc, hsc, rfl⟩ l e he; exact h sc l e hsc he,
    fun h sc l e hsc he => h sc.begun ⟨sc, hsc, rfl⟩ l e he⟩

theorem State.AddressInv.layers_valid {s : State} (h : s.AddressInv) : layersValid s.windows s.layers := h.1

theorem layersValid_of_addr_eq {ws : List Window} {p q : PerLayer LayerState} (h : layersValid ws p)
    (heq : ∀ l c, (q.get l).addr c = (p.get l).addr c) : layersValid ws q :=
  fun l c a ha => h l c a (heq l c ▸ ha)

theorem layersValid_set {ws : List Window} {p : PerLayer LayerState} (h : layersValid ws p) {l : Layer} {L : LayerState}
    (hL : ∀ c a, L.addr c = some a → validAddress ws a) : layersValid ws (p.set l L) := by
  intro l' c a ha
  rw [PerLayer.get_set] at ha
  split_ifs at ha
  · exact hL c a ha
  · exact h l' c a ha

theorem exec_layersValid {i : Instr} {s t : State} (h : exec i s = .next t) (hs : layersValid s.windows s.layers) :
    layersValid s.windows t.layers := by
  cases exec_layers h with
  | kept ht => rwa [ht]
  | shadow l f _ _ _ ht =>
    rw [ht]
    refine layersValid_set hs fun c a ha => hs l c a ?_
    rw [LayerState.touch_addr] at ha
    cases c <;> exact ha
  | address l c a _ hvalid ht =>
    rw [ht]
    refine layersValid_set hs fun c' a' ha => ?_
    rw [LayerState.touch_addr, LayerState.putAddr_addr] at ha
    split_ifs at ha
    · exact Option.some.inj ha ▸ hvalid
    · exact hs l c' a' ha
  | enable l on _ _ ht =>
    rw [ht]
    refine layersValid_set hs fun c a ha => hs l c a ?_
    cases c <;> exact ha
  | reset _ hl =>
    intro l c a ha
    obtain ⟨r, hr⟩ := hl l
    rw [hr] at ha
    cases c <;> cases ha

/-- What an operation does to the frame in flight: it stays, or the reset abandons it. -/
theorem exec_scanBegun {i : Instr} {s t : State} (h : exec i s = .next t) :
    t.frame.scan.map Scan.begun = s.frame.scan.map Scan.begun ∨ i = .lcdcReset ∧ t.frame.scan = none := by
  cases (exec_frameMachine h).1 with
  | kept ht => exact .inl (by rw [ht])
  | start _ ht => exact .inl (by rw [ht]; split_ifs <;> rfl)
  | arm ht => exact .inl (by rw [ht]; split_ifs <;> rfl)
  | pulse ht => exact .inl (by rw [ht])
  | address l c ht =>
    refine .inl ?_
    rw [ht, Option.map_map]
    exact congrArg (Option.map · _) (funext fun sc => by rw [Function.comp, Scan.addrWritten_eq]; rfl)
  | acknowledge k _ ht => exact .inl (by rw [ht])
  | reset hi _ ht => exact .inr ⟨hi, by rw [ht]; rfl⟩

/-- The scan set of a frame that begins holds addresses of the layers' channels. -/
theorem scanSetValid_of_begin {s : State} {ls : PerLayer (Option ScanEntry)} (hset : scanSet s.latch = .ok ls)
    (hs : layersValid s.windows s.layers) : scanSetValid s.windows ls := by
  intro l e he
  have hentry := scanSet_ok hset l
  rw [State.latch_get, scanEntry_latched, he] at hentry
  split_ifs at hentry
  · cases haddr : (s.layers.get l).addr (s.layers.get l).cur with
    | none =>
      rw [haddr] at hentry
      cases hentry
    | some a =>
      rw [haddr] at hentry
      cases hentry
      exact hs l _ a haddr
  · cases hentry

theorem scanStep_scanBegun (s : State) :
    (scanStep s).frame.scan.map Scan.begun = s.frame.scan.map Scan.begun ∨ (scanStep s).frame.scan = none
      ∨ ∃ ls, scanSet s.latch = .ok ls ∧ (scanStep s).frame.scan.map Scan.begun = some (s.logs.frames.length, ls) := by
  have h := scanStep_after s
  generalize scanStep s = t at h ⊢
  cases h with
  | kept => exact .inl rfl
  | fault => exact .inl rfl
  | latchFault => exact .inl rfl
  | begins mode ls _ _ _ hset => exact .inr (.inr ⟨ls, hset, by rw [beginScan_eq]; rfl⟩)
  | ends sc => exact .inr (.inl (by rw [frameEnd_eq]))

theorem envStep_scanBegun (e : EnvEvent) (s : State) :
    (envStep e s).frame.scan.map Scan.begun = s.frame.scan.map Scan.begun ∨ (envStep e s).frame.scan = none := by
  have h := envStep_after e s
  generalize envStep e s = t at h ⊢
  cases h with
  | lost => exact .inl (by rw [Option.map_map]; rfl)
  | abort => exact .inr rfl
  | paused =>
    refine .inl ?_
    unfold Frame.pausedByErrIrq
    cases s.frame.fsm <;> rfl
  | pulse => exact .inl (by rw [State.tePulse_eq])
  | _ => exact .inl rfl

theorem producerWrite_scanBegun (a : Word) (b : Byte) (s : State) :
    (producerWrite a b s).frame.scan.map Scan.begun = s.frame.scan.map Scan.begun := by
  obtain ⟨raced, h⟩ := producerWrite_eq a b s
  rw [h, Option.map_map]
  rfl

theorem State.AddressInv.of_scanBegun {s t : State} (hs : s.AddressInv) (hwindows : t.windows = s.windows)
    (hlayers : layersValid s.windows t.layers)
    (hscan : t.frame.scan.map Scan.begun = s.frame.scan.map Scan.begun ∨ t.frame.scan = none) : t.AddressInv := by
  rw [State.addressInv_iff, hwindows]
  refine ⟨hlayers, ?_⟩
  rcases hscan with hkept | hnone
  · rw [hkept]
    exact ((State.addressInv_iff s).1 hs).2
  · rw [hnone]
    exact fun ls h => Option.noConfusion rfl (heq_of_eq h)

theorem exec_windows {i : Instr} {s t : State} (h : exec i s = .next t) : t.windows = s.windows := by
  obtain ⟨_, _, _, hwindows, _⟩ := exec_frame h
  exact hwindows

theorem exec_addressInv {i : Instr} {s t : State} (hs : s.AddressInv) (h : exec i s = .next t) : t.AddressInv := by
  exact hs.of_scanBegun (exec_windows h) (exec_layersValid h hs.layers_valid)
    ((exec_scanBegun h).imp_right And.right)

theorem scanStep_addressInv {s : State} (hs : s.AddressInv) : (scanStep s).AddressInv := by
  have hwindows : (scanStep s).windows = s.windows := by simp
  have hlayers : layersValid s.windows (scanStep s).layers :=
    layersValid_of_addr_eq hs.layers_valid fun l => by
      obtain ⟨_, _, haddr, _⟩ := scanStep_layer s l
      exact haddr
  rcases scanStep_scanBegun s with hkept | hnone | ⟨ls, hset, hscan⟩
  · exact hs.of_scanBegun hwindows hlayers (.inl hkept)
  · exact hs.of_scanBegun hwindows hlayers (.inr hnone)
  · rw [State.addressInv_iff, hwindows, hscan]
    exact ⟨hlayers, fun ls' h => Option.some.inj h ▸ scanSetValid_of_begin hset hs.layers_valid⟩

theorem State.reset_addressInv : State.reset.AddressInv := by
  refine ⟨fun l c a h => ?_, fun sc l e h => Option.noConfusion rfl (heq_of_eq h)⟩
  cases l <;> cases c <;> cases h

/-- Settles O51: of all steps only an address write and a frame begin bring in addresses, the one a valid one, the
other those of the layers. -/
theorem stepKeepsValidAddresses : Obligations.StepKeepsValidAddresses := by
  refine ⟨validFb_iff, State.reset_addressInv, fun s t hs h => ?_⟩
  refine step_keeps_of_sameHardware (P := fun u => u.AddressInv ∧ u.windows = s.windows)
    (same := fun u v hsame ⟨hu, hw⟩ =>
      ⟨hu.of_scanBegun hsame.windows (hsame.layers ▸ hu.layers_valid) (.inl (by rw [hsame.frame])),
        hsame.windows.trans hw⟩)
    (op := fun i u v ⟨hu, hw⟩ h => ⟨exec_addressInv hu h, (exec_windows h).trans hw⟩)
    (link := fun u ⟨hu, hw⟩ =>
      ⟨hu.of_scanBegun (by simp) (by simpa using hu.layers_valid) (.inl (by simp)), by simpa using hw⟩)
    (scan := fun u ⟨hu, hw⟩ => ⟨scanStep_addressInv hu, by simpa using hw⟩)
    (env := fun e u ⟨hu, hw⟩ =>
      ⟨hu.of_scanBegun (by simp) (by simpa using hu.layers_valid) (envStep_scanBegun e u), by simpa using hw⟩)
    (pixel := fun a b u ⟨hu, hw⟩ =>
      ⟨hu.of_scanBegun (by simp) (by simpa using hu.layers_valid) (.inl (producerWrite_scanBegun a b u)),
        by simpa using hw⟩)
    ⟨hs, rfl⟩ h

end Sys2Proof.Machine
end

section
/-! R105, R490: the machine after power-on. -/

namespace Sys2Proof.Machine

theorem State.reset_fsmInv : State.reset.FsmInv :=
  ⟨by decide, by decide, by decide, by decide, by decide, by decide⟩

theorem State.reset_frameLogInv : State.reset.FrameLogInv :=
  ⟨rfl, rfl, fun _ h => Option.noConfusion rfl (heq_of_eq h)⟩

theorem State.reset_linkInv : State.reset.LinkInv :=
  ⟨rfl, by decide, rfl, Nat.zero_le _, Nat.zero_le _⟩

/-- A reset layer is disabled, and has neither a format nor an active configuration. -/
theorem State.reset_layer (l : Layer) : State.reset.layers.get l = LayerState.afterReset LayerRegs.por := by
  cases l <;> rfl

theorem State.reset_configInv : State.reset.ConfigInv where
  configured := by decide
  timing := by decide
  enabled_iff l := by
    rw [State.reset_layer]
    decide
  enabled_ready l := by
    rw [State.reset_layer]
    decide
  active_format l c h := by
    rw [State.reset_layer] at h
    cases h

theorem State.reset_reservedInv : State.reset.ReservedInv := ⟨BitVec.zero_and, BitVec.zero_and⟩

/-- Settles O58. -/
theorem resetMeetsInvariants : Obligations.ResetMeetsInvariants :=
  ⟨State.reset_addressInv, Memory.wf_nil, State.reset_fsmInv, State.reset_frameLogInv, State.reset_linkInv,
    State.reset_configInv, State.reset_reservedInv, fun _ => rfl⟩

/-- Settles O59: each field by evaluation. -/
theorem powerOnValues : Obligations.PowerOnValues := by
  refine ⟨⟨rfl, rfl, rfl, rfl, rfl, rfl⟩, rfl, rfl, rfl, fun l => ⟨LayerRegs.por, State.reset_layer l⟩, rfl, rfl, rfl,
    rfl, rfl, rfl⟩

end Sys2Proof.Machine
end

section
/-! R88 to R91, R65: the frame machine's fields agree with one another and with the lanes. -/

namespace Sys2Proof.Machine

/-- The combinations of the frame machine's fields that can be (R88 to R91, R401, R402). -/
inductive Frame.Coherent (f : Frame) : Prop where
  | rest (hfsm : f.fsm = .idle ∨ f.fsm = .frameDone ∨ ∃ k, f.fsm = .error k) (hscan : f.scan = none)
      (hvalid : f.valid = false)
  | software (hfsm : f.fsm = .armedSoftware) (hscan : f.scan = none) (hvalid : f.valid = true) (harm : f.arm = .software)
  | hardware (hfsm : f.fsm = .armedHardwareTE) (hscan : f.scan = none) (harm : f.arm = .te)
  | scanning (sc : Scan) (hfsm : f.fsm = .scanning) (hscan : f.scan = some sc) (hvalid : f.valid = false)

theorem ArmMode.eq_te {a : ArmMode} (h : a ≠ .software) : a = .te := by
  cases a with
  | software => exact absurd rfl h
  | te => rfl

theorem State.fsmInv_iff (s : State) :
    s.FsmInv ↔ s.frame.Coherent ∧ (s.link.data = .hsFrame ↔ s.frame.fsm = .scanning) := by
  constructor
  · rintro ⟨hscan, hlanes, hvalid, hsoftware, harm, hte⟩
    refine ⟨?_, hlanes⟩
    have hnone (h : s.frame.fsm ≠ .scanning) : s.frame.scan = none :=
      Option.not_isSome_iff_eq_none.1 fun hsome => h (hscan.1 hsome)
    have hfalse (h1 : s.frame.fsm ≠ .armedSoftware) (h2 : s.frame.fsm ≠ .armedHardwareTE) : s.frame.valid = false :=
      Bool.not_eq_true _ ▸ fun h => (hvalid h).elim h1 h2
    cases h : s.frame.fsm with
    | idle => exact .rest (.inl h) (hnone (by simp [h])) (hfalse (by simp [h]) (by simp [h]))
    | frameDone => exact .rest (.inr (.inl h)) (hnone (by simp [h])) (hfalse (by simp [h]) (by simp [h]))
    | error k => exact .rest (.inr (.inr ⟨k, h⟩)) (hnone (by simp [h])) (hfalse (by simp [h]) (by simp [h]))
    | armedSoftware => exact .software h (hnone (by simp [h])) (hsoftware h) (harm h)
    | armedHardwareTE => exact .hardware h (hnone (by simp [h])) (hte h)
    | scanning =>
      obtain ⟨sc, hsc⟩ := Option.isSome_iff_exists.1 (hscan.2 h)
      exact .scanning sc h hsc (hfalse (by simp [h]) (by simp [h]))
  · rintro ⟨hframe, hlanes⟩
    refine ⟨?_, hlanes, ?_, ?_, ?_, ?_⟩
    all_goals
      cases hframe with
      | rest hfsm hscan hvalid => rcases hfsm with h | h | ⟨k, h⟩ <;> simp [h, hscan, hvalid]
      | software hfsm hscan hvalid harm => simp [hfsm, hscan, hvalid, harm]
      | hardware hfsm hscan harm => simp [hfsm, hscan, harm]
      | scanning sc hfsm hscan hvalid => simp [hfsm, hscan, hvalid]

theorem Frame.Coherent.scan_none {f : Frame} (hf : f.Coherent) (h : f.fsm ≠ .scanning) : f.scan = none := by
  cases hf with
  | rest _ hscan => exact hscan
  | software _ hscan => exact hscan
  | hardware _ hscan => exact hscan
  | scanning sc hfsm => exact absurd hfsm h

/-- What a frame in flight records of its own course leaves the frame machine's fields as they are. -/
theorem Frame.Coherent.map_scan {f : Frame} (hf : f.Coherent) (g : Scan → Scan) :
    Frame.Coherent { f with scan := f.scan.map g } := by
  cases hf with
  | rest hfsm hscan hvalid => exact .rest hfsm (by rw [hscan]; rfl) hvalid
  | software hfsm hscan hvalid harm => exact .software hfsm (by rw [hscan]; rfl) hvalid harm
  | hardware hfsm hscan harm => exact .hardware hfsm (by rw [hscan]; rfl) harm
  | scanning sc hfsm hscan hvalid => exact .scanning (g sc) hfsm (by rw [hscan]; rfl) hvalid

/-- A TE pulse triggers an armed frame and no other (R403). -/
theorem Frame.Coherent.pulse {f : Frame} (hf : f.Coherent) :
    Frame.Coherent { f with valid := if f.fsm = .armedHardwareTE then true else f.valid } := by
  cases hf with
  | rest hfsm hscan hvalid =>
    refine .rest hfsm hscan ?_
    rw [← hvalid, if_neg]
    rcases hfsm with h | h | ⟨k, h⟩ <;> simp [h]
  | software hfsm hscan hvalid harm => exact .software hfsm hscan (by simp [hvalid]) harm
  | hardware hfsm hscan harm => exact .hardware hfsm hscan harm
  | scanning sc hfsm hscan hvalid => exact .scanning sc hfsm hscan (by simp [hfsm, hvalid])

theorem Frame.Coherent.start {f : Frame} (hf : f.Coherent) (hfsm : f.fsm = .idle ∨ f.fsm = .frameDone) :
    Frame.Coherent
      (if f.arm = .software then { f with valid := true, fsm := .armedSoftware }
      else { f with fsm := .armedHardwareTE }) := by
  have hscan : f.scan = none := hf.scan_none (by rcases hfsm with h | h <;> simp [h])
  split_ifs with harm
  · exact .software rfl hscan rfl harm
  · exact .hardware rfl hscan (ArmMode.eq_te harm)

theorem Frame.Coherent.armTe {f : Frame} (hf : f.Coherent) :
    Frame.Coherent
      (if f.fsm = .idle ∨ f.fsm = .frameDone ∨ f.fsm = .armedSoftware then
        { f with arm := .te, valid := false, fsm := .armedHardwareTE }
      else { f with arm := .te }) := by
  split_ifs with hrest
  · exact .hardware rfl (hf.scan_none (by rcases hrest with h | h | h <;> simp [h])) rfl
  · cases hf with
    | rest hfsm hscan hvalid => exact .rest hfsm hscan hvalid
    | software hfsm => exact absurd (.inr (.inr hfsm)) hrest
    | hardware hfsm hscan => exact .hardware hfsm hscan rfl
    | scanning sc hfsm hscan hvalid => exact .scanning sc hfsm hscan hvalid

/-- A frame machine with no frame in flight that is armed again in TE mode, or rests. -/
theorem Frame.Coherent.rearm {f : Frame} {fsm : Fsm} (hscan : f.scan = none) (hvalid : f.valid = false)
    (hfsm : fsm = .idle ∨ fsm = .frameDone) :
    Frame.Coherent { f with fsm := if f.arm = .te then .armedHardwareTE else fsm } := by
  by_cases harm : f.arm = .te
  · exact .hardware (if_pos harm) hscan harm
  · refine .rest ?_ hscan hvalid
    rw [if_neg harm]
    exact hfsm.imp_right .inl

theorem Frame.coherent_afterReset : Frame.afterReset.Coherent := .rest (.inl rfl) rfl rfl

theorem exec_coherent {i : Instr} {s t : State} (h : exec i s = .next t) (hs : s.frame.Coherent) : t.frame.Coherent := by
  cases (exec_frameMachine h).1 with
  | kept ht => rwa [ht]
  | start hfsm ht => exact ht ▸ hs.start hfsm
  | arm ht => exact ht ▸ hs.armTe
  | pulse ht => exact ht ▸ hs.pulse
  | address l c ht => exact ht ▸ hs.map_scan _
  | acknowledge k hfsm ht =>
    have hscan : s.frame.scan = none := hs.scan_none (by simp [hfsm])
    exact ht ▸ Frame.Coherent.rearm (f := { s.frame with valid := false }) hscan rfl (.inl rfl)
  | reset _ _ ht => exact ht ▸ Frame.coherent_afterReset

/-- Whether a frame is in flight after an operation: as before, but for the reset, which leaves none. -/
theorem exec_scanning {i : Instr} {s t : State} (h : exec i s = .next t) :
    i = .lcdcReset ∧ t.frame.fsm ≠ .scanning ∨ i ≠ .lcdcReset ∧ (t.frame.fsm = .scanning ↔ s.frame.fsm = .scanning) := by
  by_cases hi : i = .lcdcReset
  · subst hi
    cases h
    exact .inl ⟨rfl, by simp [panelReset, Frame.afterReset]⟩
  refine .inr ⟨hi, ?_⟩
  cases (exec_frameMachine h).1 with
  | kept ht => rw [ht]
  | start hfsm ht =>
    rw [ht]
    rcases hfsm with hfsm | hfsm <;> split_ifs <;> simp [hfsm]
  | arm ht =>
    rw [ht]
    split_ifs with hrest
    · rcases hrest with h | h | h <;> simp [h]
    · rfl
  | pulse ht => rw [ht]
  | address l c ht => rw [ht]
  | acknowledge k hfsm ht =>
    rw [ht]
    dsimp only
    split_ifs <;> simp [hfsm]
  | reset hreset => exact absurd hreset hi

/-- Whether the lanes carry a frame after an operation: as before, but for the reset and the initialisation, after which
they do not. -/
theorem exec_hsFrame {i : Instr} {s t : State} (h : exec i s = .next t) :
    (i = .lcdcReset ∨ s.frame.fsm ≠ .scanning) ∧ t.link.data ≠ .hsFrame
      ∨ i ≠ .lcdcReset ∧ t.link.data = s.link.data := by
  by_cases hi : i = .lcdcReset
  · subst hi
    cases h
    refine .inl ⟨.inl rfl, ?_⟩
    rw [panelReset_link]
    dsimp only
    split_ifs with hdata
    · simp
    · exact hdata
  cases exec_link h with
  | kept ht => exact .inr ⟨hi, by rw [ht]⟩
  | init _ hfsm ht => exact .inl ⟨.inr hfsm, by rw [ht]; simp⟩
  | send _ _ _ ht => exact .inr ⟨hi, by rw [ht]⟩
  | read _ _ ht => exact .inr ⟨hi, by rw [ht]⟩
  | ulpsEnter _ _ ht => exact .inr ⟨hi, by rw [ht]⟩
  | ulpsExit _ _ ht => exact .inr ⟨hi, by rw [ht]⟩
  | reset hreset => exact absurd hreset hi

theorem exec_fsmInv {i : Instr} {s t : State} (hs : s.FsmInv) (h : exec i s = .next t) : t.FsmInv := by
  rw [State.fsmInv_iff] at hs ⊢
  obtain ⟨hframe, hlanes⟩ := hs
  refine ⟨exec_coherent h hframe, ?_⟩
  rcases exec_hsFrame h with ⟨hcase, hdata⟩ | ⟨hi, hdata⟩ <;> rcases exec_scanning h with ⟨hi', hfsm⟩ | ⟨hi', hfsm⟩
  · exact iff_of_false hdata hfsm
  · exact iff_of_false hdata (fun h => hcase.resolve_left hi' (hfsm.1 h))
  · exact absurd hi' hi
  · rw [hdata, hlanes, hfsm]

theorem linkStep_hsFrame (s : State) : (linkStep s).link.data = .hsFrame ↔ s.link.data = .hsFrame := by
  have h := linkStep_after s
  generalize linkStep s = t at h ⊢
  cases h with
  | kept => rfl
  | begins _ hdata => simp [hdata]
  | sent p _ hdata => simp [linkSent_eq, hdata]
  | turned p _ hdata => simp [linkTurn_eq, hdata]
  | entered _ hdata => simp [linkUlpsEnter_eq, hdata]
  | exited _ hdata => simp [linkUlpsExit_eq, hdata]

theorem scanStep_fsmInv {s : State} (hs : s.FsmInv) : (scanStep s).FsmInv := by
  have h := scanStep_after s
  rw [State.fsmInv_iff] at hs ⊢
  obtain ⟨hframe, hlanes⟩ := hs
  generalize scanStep s = t at h ⊢
  cases h with
  | kept => exact ⟨hframe, hlanes⟩
  | fault => exact ⟨hframe, hlanes⟩
  | latchFault => exact ⟨hframe, hlanes⟩
  | begins mode ls =>
    rw [beginScan_eq]
    exact ⟨.scanning _ rfl rfl rfl, iff_of_true rfl rfl⟩
  | ends sc hfsm =>
    rw [frameEnd_eq]
    refine ⟨?_, ?_⟩
    · cases hframe with
      | scanning sc' _ _ hvalid =>
        exact Frame.Coherent.rearm (f := { s.frame with scan := none }) rfl hvalid (.inr rfl)
      | rest hrest => rcases hrest with h | h | ⟨k, h⟩ <;> simp [hfsm] at h
      | software h => simp [hfsm] at h
      | hardware h => simp [hfsm] at h
    · refine iff_of_false (by simp) ?_
      dsimp only
      split_ifs <;> simp

theorem envStep_fsmInv (e : EnvEvent) {s : State} (hs : s.FsmInv) : (envStep e s).FsmInv := by
  have h := envStep_after e s
  rw [State.fsmInv_iff] at hs ⊢
  obtain ⟨hframe, hlanes⟩ := hs
  generalize envStep e s = t at h ⊢
  have hbta (h : s.link.data = .bta) : s.frame.fsm ≠ .scanning := by
    rw [Ne, ← hlanes, h]
    simp
  cases h with
  | kept => exact ⟨hframe, hlanes⟩
  | byte => exact ⟨hframe, hlanes⟩
  | response hdata => exact ⟨hframe, iff_of_false (by simp) (hbta hdata)⟩
  | failure c hdata => exact ⟨hframe, iff_of_false (by simp) (hbta hdata)⟩
  | pulse =>
    rw [State.tePulse_eq]
    exact ⟨hframe.pulse, hlanes⟩
  | lost => exact ⟨hframe.map_scan _, hlanes⟩
  | abort k c =>
    exact ⟨.rest (.inr (.inr ⟨k, rfl⟩)) rfl rfl, iff_of_false (by simp [State.aborted]) (by simp [State.aborted])⟩
  | paused hfsm =>
    have hdata : s.link.data ≠ .hsFrame := fun h => hfsm (hlanes.1 h)
    simp only [Frame.pausedByErrIrq]
    split
    next k hk => exact ⟨hframe, hlanes⟩
    next => exact ⟨.rest (.inr (.inr ⟨_, rfl⟩)) (hframe.scan_none hfsm) rfl, iff_of_false hdata (by simp)⟩

theorem producerWrite_fsmInv (a : Word) (b : Byte) {s : State} (hs : s.FsmInv) : (producerWrite a b s).FsmInv := by
  obtain ⟨raced, h⟩ := producerWrite_eq a b s
  rw [State.fsmInv_iff] at hs ⊢
  obtain ⟨hframe, hlanes⟩ := hs
  rw [h]
  exact ⟨hframe.map_scan _, hlanes⟩

theorem State.FsmInv.of_eq {s t : State} (hs : s.FsmInv) (hframe : t.frame = s.frame)
    (hdata : t.link.data = .hsFrame ↔ s.link.data = .hsFrame) : t.FsmInv := by
  rw [State.fsmInv_iff, hframe, hdata]
  exact (State.fsmInv_iff s).1 hs

theorem State.SameHardware.data {s t : State} (h : s.SameHardware t) : t.link.data = s.link.data := by rw [h.link]

theorem step_fsmInv {s t : State} (hs : s.FsmInv) (h : step s = .next t) : t.FsmInv :=
  step_keeps_of_sameHardware
    (same := fun _ _ hsame hs => hs.of_eq hsame.frame (by rw [hsame.data]))
    (op := fun _ _ _ hs h => exec_fsmInv hs h)
    (link := fun s hs => hs.of_eq (by simp) (linkStep_hsFrame s))
    (scan := fun _ hs => scanStep_fsmInv hs)
    (env := fun e _ hs => envStep_fsmInv e hs)
    (pixel := fun a b _ hs => producerWrite_fsmInv a b hs) hs h

end Sys2Proof.Machine
end

section
/-! R280, R405, R408: frames are numbered, sent and recorded once each. -/

namespace Sys2Proof.Machine

/-- The number and the scan set of the frame in flight, if there is one. -/
def State.begun (s : State) : Option (Nat × PerLayer (Option ScanEntry)) := s.frame.scan.map Scan.begun

theorem State.begun_isSome (s : State) : s.begun.isSome = s.frame.scan.isSome := Option.isSome_map

theorem hsFrames_append (w w' : List WireEvent) : hsFrames (w ++ w') = hsFrames w ++ hsFrames w' :=
  List.filterMap_append

/-- What does not begin or end a frame keeps the numbering. -/
theorem State.FrameLogInv.of_same {s t : State} (hs : s.FrameLogInv)
    (hwire : hsFrames t.logs.wire = hsFrames s.logs.wire) (hframes : t.logs.frames = s.logs.frames)
    (hscan : t.begun = s.begun) : t.FrameLogInv where
  sent := by
    rw [State.framesBegun, ← State.begun_isSome, hscan, State.begun_isSome, hwire, hframes]
    exact hs.sent
  recorded := by rw [hframes]; exact hs.recorded
  inFlight sc hsc := by
    have hbegun : s.begun = some sc.begun := by rw [← hscan, State.begun, hsc, Option.map_some]
    obtain ⟨sc', hsc', hsame⟩ := Option.map_eq_some_iff.1 hbegun
    rw [hframes, ← hs.inFlight sc' hsc']
    exact (congrArg Prod.fst hsame).symm

/-- A frame begins with the next number, and is sent with it. -/
theorem State.FrameLogInv.of_begin {s t : State} (hs : s.FrameLogInv) (hidle : s.frame.scan = none)
    (hwire : t.logs.wire = s.logs.wire ++ [.txHs s.logs.frames.length]) (hframes : t.logs.frames = s.logs.frames)
    {sc : Scan} (hscan : t.frame.scan = some sc) (hk : sc.k = s.logs.frames.length) : t.FrameLogInv where
  sent := by
    have hsent := hs.sent
    rw [State.framesBegun, hidle] at hsent
    have hone : hsFrames [.txHs s.logs.frames.length] = [s.logs.frames.length] := rfl
    rw [State.framesBegun, hscan, hwire, hframes, hsFrames_append, hsent, hone]
    exact List.range_succ.symm
  recorded := by rw [hframes]; exact hs.recorded
  inFlight sc' hsc' := by
    rw [hframes, ← hk]
    exact congrArg Scan.k (Option.some.inj (hsc'.symm.trans hscan))

/-- A frame ends with one record, of its number. -/
theorem State.FrameLogInv.of_end {s t : State} (hs : s.FrameLogInv) {sc : Scan} (hscan : s.frame.scan = some sc)
    {r : FrameRecord} (hr : r.k = sc.k) (hwire : t.logs.wire = s.logs.wire)
    (hframes : t.logs.frames = s.logs.frames ++ [r]) (hnone : t.frame.scan = none) : t.FrameLogInv where
  sent := by
    rw [State.framesBegun, hnone, hwire, hframes, List.length_append]
    have hsent := hs.sent
    rw [State.framesBegun, hscan] at hsent
    exact hsent
  recorded := by
    rw [hframes, List.map_append, hs.recorded, List.length_append, List.map_singleton, List.length_singleton,
      List.range_succ, hr, hs.inFlight sc hscan]
  inFlight sc' hsc' := by
    rw [hnone] at hsc'
    cases hsc'

theorem State.FrameLogInv.of_endInFlight {s t : State} (hs : s.FrameLogInv) {o : FrameOutcome}
    (hlogs : t.logs = (s.endInFlight o).logs) (hnone : t.frame.scan = none) : t.FrameLogInv := by
  cases hscan : s.frame.scan with
  | none =>
    rw [State.endInFlight_of_none hscan] at hlogs
    exact hs.of_same (by rw [hlogs]) (by rw [hlogs]) (by rw [State.begun, State.begun, hnone, hscan])
  | some sc =>
    rw [State.endInFlight_of_scan hscan] at hlogs
    exact hs.of_end hscan (s.frameRecord_reports sc o).k (by rw [hlogs]) (by rw [hlogs]) hnone

theorem exec_frameLogInv {i : Instr} {s t : State} (hs : s.FrameLogInv) (h : exec i s = .next t) : t.FrameLogInv := by
  rcases exec_scanBegun h with hkept | ⟨rfl, hnone⟩
  · rcases (exec_frameMachine h).2 with hlogs | ⟨hlogs, hframe⟩
    · exact hs.of_same (by rw [hlogs]) (by rw [hlogs]) hkept
    · exact hs.of_endInFlight hlogs (by rw [hframe]; rfl)
  · cases h
    exact hs.of_endInFlight (panelReset_logs_mem s).1 hnone

/-- A LINK step sends no frame. -/
theorem linkStep_frameLogInv {s : State} (hs : s.FrameLogInv) : (linkStep s).FrameLogInv := by
  have hkeeps {t : State} (w : List WireEvent) (hw : hsFrames w = [])
      (hlogs : t.logs = { s.logs with wire := s.logs.wire ++ w }) (hframe : t.frame = s.frame) : t.FrameLogInv :=
    hs.of_same (by rw [hlogs, hsFrames_append, hw, List.append_nil]) (by rw [hlogs])
      (by rw [State.begun, State.begun, hframe])
  have h := linkStep_after s
  generalize linkStep s = t at h ⊢
  cases h with
  | kept => exact hs
  | begins => exact hs.of_same rfl rfl rfl
  | sent p =>
    rw [linkSent_eq]
    exact hkeeps [.txLp p] rfl rfl rfl
  | turned p =>
    rw [linkTurn_eq]
    exact hkeeps [.txLp p, .bta] rfl rfl rfl
  | entered =>
    rw [linkUlpsEnter_eq]
    refine hkeeps ((if s.link.clk = .hs then [.clkLp] else []) ++ [.ulpsEntry .clock, .ulpsEntry .data]) ?_
      (by rw [List.append_assoc]) rfl
    split_ifs <;> rfl
  | exited =>
    rw [linkUlpsExit_eq]
    exact hkeeps [.ulpsExit .data, .ulpsExit .clock] rfl rfl rfl

theorem scanStep_frameLogInv {s : State} (hfsm : s.FsmInv) (hs : s.FrameLogInv) : (scanStep s).FrameLogInv := by
  have h := scanStep_after s
  generalize scanStep s = t at h ⊢
  cases h with
  | kept => exact hs
  | fault => exact hs.of_same rfl rfl rfl
  | latchFault => exact hs.of_same rfl rfl rfl
  | begins mode ls hidle =>
    have hcoherent := ((State.fsmInv_iff s).1 hfsm).1
    rw [beginScan_eq]
    exact hs.of_begin (hcoherent.scan_none hidle) rfl rfl rfl rfl
  | ends sc _ hscan =>
    rw [frameEnd_eq]
    exact hs.of_end hscan (State.frameRecord_reports _ sc .done).k rfl rfl rfl

theorem envStep_frameLogInv (e : EnvEvent) {s : State} (hs : s.FrameLogInv) : (envStep e s).FrameLogInv := by
  have h := envStep_after e s
  generalize envStep e s = t at h ⊢
  cases h with
  | response =>
    refine hs.of_same ?_ rfl rfl
    exact (hsFrames_append s.logs.wire [.rx s.link.rxSent]).trans (List.append_nil _)
  | lost => exact hs.of_same rfl rfl (by rw [State.begun, State.begun, Option.map_map]; rfl)
  | abort => exact hs.of_endInFlight rfl rfl
  | pulse => exact hs.of_same (by simp) (by simp) (by rw [State.begun, State.begun, State.tePulse_eq])
  | paused =>
    refine hs.of_same rfl rfl ?_
    unfold State.begun Frame.pausedByErrIrq
    cases s.frame.fsm <;> rfl
  | _ => exact hs.of_same rfl rfl rfl

/-- Settles O53: the two invariants are kept together, since a frame begins only with none in flight. -/
theorem stepKeepsFrameMachine : Obligations.StepKeepsFrameMachine := by
  refine fun s t hfsm hlog h => step_keeps_of_sameHardware (P := fun u => u.FsmInv ∧ u.FrameLogInv)
    (same := fun u v hsame ⟨hfsm, hlog⟩ => ⟨hfsm.of_eq hsame.frame (by rw [hsame.data]),
      hlog.of_same (by rw [hsame.wire]) hsame.frames (by rw [State.begun, State.begun, hsame.frame])⟩)
    (op := fun i u v ⟨hfsm, hlog⟩ h => ⟨exec_fsmInv hfsm h, exec_frameLogInv hlog h⟩)
    (link := fun u ⟨hfsm, hlog⟩ => ⟨hfsm.of_eq (by simp) (linkStep_hsFrame u), linkStep_frameLogInv hlog⟩)
    (scan := fun u ⟨hfsm, hlog⟩ => ⟨scanStep_fsmInv hfsm, scanStep_frameLogInv hfsm hlog⟩)
    (env := fun e u ⟨hfsm, hlog⟩ => ⟨envStep_fsmInv e hfsm, envStep_frameLogInv e hlog⟩)
    (pixel := fun a b u ⟨hfsm, hlog⟩ => ⟨producerWrite_fsmInv a b hfsm,
      hlog.of_same (by simp) (by simp) (producerWrite_scanBegun a b u)⟩)
    ⟨hfsm, hlog⟩ h

end Sys2Proof.Machine
end

section
/-! R65 to R69, R94: the link's fields agree with one another. -/

namespace Sys2Proof.Machine

theorem linkShape_bta {job : Option Job} {latch : UlpsLatch} (h : linkShape .bta job latch = true) :
    (∃ p, job = some (.txRead p)) ∧ latch = .exited := by
  rcases job with _ | ⟨_ | _ | _ | _⟩ <;> cases latch <;> simp_all [linkShape]

theorem linkShape_hsFrame {job : Option Job} {latch : UlpsLatch} (h : linkShape .hsFrame job latch = true) :
    job = none ∧ latch = .exited := by
  rcases job with _ | ⟨_ | _ | _ | _⟩ <;> cases latch <;> simp_all [linkShape]

/-- With no job the latch is entered exactly in ULPS (R94). -/
theorem linkShape_none {data : DataLane} {latch : UlpsLatch} (h : linkShape data none latch = true) :
    latch = .entered ↔ data = .ulps := by
  cases data <;> cases latch <;> simp_all [linkShape]

/-- With a packet to send the latch is exited (R94). -/
theorem linkShape_tx {data : DataLane} {job : Option Job} {latch : UlpsLatch} (h : linkShape data job latch = true)
    (hjob : (∃ p, job = some (.txPkt p)) ∨ ∃ p, job = some (.txRead p)) : latch = .exited := by
  rcases hjob with ⟨p, rfl⟩ | ⟨p, rfl⟩ <;> cases data <;> cases latch <;> simp_all [linkShape]

theorem linkShape_ulpsEnter {data : DataLane} {latch : UlpsLatch}
    (h : linkShape data (some .ulpsEnter) latch = true) : latch = .entered := by
  cases data <;> cases latch <;> simp_all [linkShape]

theorem linkShape_ulpsExit {data : DataLane} {latch : UlpsLatch}
    (h : linkShape data (some .ulpsExit) latch = true) : latch = .exited := by
  cases data <;> cases latch <;> simp_all [linkShape]

theorem linkShape_lpTx {job : Option Job} (hjob : (∃ p, job = some (.txPkt p)) ∨ ∃ p, job = some (.txRead p)) :
    linkShape .lpTx job .exited = true := by
  rcases hjob with ⟨p, rfl⟩ | ⟨p, rfl⟩ <;> rfl

theorem State.LinkInv.of_eq {s t : State} (hs : s.LinkInv) (h : t.link = s.link) : t.LinkInv := by
  constructor <;> rw [h]
  exacts [hs.shape, hs.clock, hs.writeArray, hs.writeArray_length, hs.fifo_length]

/-- A link that loses bytes of its FIFO. -/
theorem State.LinkInv.of_fifo {s t : State} (hs : s.LinkInv) (h : t.link = { s.link with rxFifo := t.link.rxFifo })
    (hfifo : t.link.rxFifo.length ≤ s.link.rxFifo.length) : t.LinkInv := by
  refine ⟨?_, ?_, ?_, ?_, hfifo.trans hs.fifo_length⟩ <;> rw [h]
  exacts [hs.shape, hs.clock, hs.writeArray, hs.writeArray_length]

/-- While no packet is queued the write array is empty (R69). -/
theorem State.LinkInv.writeArray_nil {s : State} (hs : s.LinkInv) (h : writeArrayFor s.link.job = []) :
    s.link.wrArray = [] := hs.writeArray.trans h

/-- A link whose job ended, with the lanes idle again. -/
theorem State.LinkInv.of_stop {s t : State} (hs : s.LinkInv) (hulps : s.link.ulps = .exited) (hclk : s.link.clk ≠ .ulps)
    (hwr : s.link.wrArray = []) (h : t.link = { s.link with data := .stop, job := none }) : t.LinkInv := by
  refine ⟨?_, ?_, ?_, ?_, ?_⟩ <;> rw [h]
  · rw [hulps]
    rfl
  · exact iff_of_false hclk (by simp)
  · exact hwr
  · rw [hwr]
    exact Nat.zero_le _
  · exact hs.fifo_length

theorem State.LinkInv.clk_ne {s : State} (hs : s.LinkInv) (h : s.link.data ≠ .ulps) : s.link.clk ≠ .ulps :=
  fun hclk => h (hs.clock.1 hclk)

theorem exec_linkInv {i : Instr} {s t : State} (hs : s.LinkInv) (h : exec i s = .next t) : t.LinkInv := by
  have hshape := hs.shape
  cases exec_link h with
  | kept ht => exact hs.of_eq ht
  | init _ _ ht =>
    constructor <;> rw [ht]
    · rfl
    · exact iff_of_false (by simp) (by simp)
    · rfl
    · exact Nat.zero_le _
    · exact Nat.zero_le _
  | send p hready hlen ht =>
    obtain ⟨_, hulps, hjob, hdata⟩ := hready
    have hwr := hs.writeArray_nil (by rw [hjob]; rfl)
    rw [hwr, List.nil_append] at ht
    constructor <;> rw [ht]
    · rw [hulps, hdata]
      rfl
    · exact hs.clock
    · exact hlen
    · exact hs.fifo_length
  | read p hready ht =>
    obtain ⟨_, hulps, hjob, hdata⟩ := hready
    have hwr := hs.writeArray_nil (by rw [hjob]; rfl)
    constructor <;> rw [ht]
    · rw [hulps, hdata]
      rfl
    · exact hs.clock
    · exact hwr
    · exact hs.writeArray_length
    · dsimp only
      split_ifs
      · exact Nat.zero_le _
      · exact hs.fifo_length
  | ulpsEnter hlanes _ ht =>
    obtain ⟨hjob, hdata⟩ := hlanes
    have hwr := hs.writeArray_nil (by rw [hjob]; rfl)
    constructor <;> rw [ht]
    · rw [hdata]
      rfl
    · exact hs.clock
    · exact hwr
    · exact hs.writeArray_length
    · exact hs.fifo_length
  | ulpsExit hjob hulps ht =>
    have hwr := hs.writeArray_nil (by rw [hjob]; rfl)
    rw [hjob] at hshape
    constructor <;> rw [ht]
    · rw [(linkShape_none hshape).1 hulps]
      rfl
    · exact hs.clock
    · exact hwr
    · exact hs.writeArray_length
    · exact hs.fifo_length
  | reset _ ht =>
    by_cases hdata : s.link.data = .hsFrame
    · rw [if_pos hdata] at ht
      rw [hdata] at hshape
      obtain ⟨hjob, hulps⟩ := linkShape_hsFrame hshape
      exact hs.of_stop hulps (hs.clk_ne (by simp [hdata])) (hs.writeArray_nil (by rw [hjob]; rfl)) (by rw [ht, ← hjob])
    · rw [if_neg hdata] at ht
      exact hs.of_eq ht

theorem linkStep_linkInv {s : State} (hs : s.LinkInv) : (linkStep s).LinkInv := by
  have hshape := hs.shape
  have h := linkStep_after s
  generalize linkStep s = t at h ⊢
  cases h with
  | kept => exact hs
  | begins hjob hdata =>
    refine ⟨?_, iff_of_false (hs.clk_ne (by simp [hdata])) (by simp), hs.writeArray, hs.writeArray_length,
      hs.fifo_length⟩
    rw [linkShape_tx hshape hjob]
    exact linkShape_lpTx hjob
  | sent p hjob hdata =>
    rw [linkSent_eq]
    refine ⟨?_, iff_of_false (hs.clk_ne (by simp [hdata])) (by simp), rfl, Nat.zero_le _, hs.fifo_length⟩
    rw [linkShape_tx hshape (.inl ⟨p, hjob⟩)]
    rfl
  | turned p hjob hdata =>
    rw [linkTurn_eq]
    refine ⟨?_, iff_of_false (hs.clk_ne (by simp [hdata])) (by simp), hs.writeArray, hs.writeArray_length,
      hs.fifo_length⟩
    rw [linkShape_tx hshape (.inr ⟨p, hjob⟩)]
    simp only [hjob]
    rfl
  | entered hjob hdata =>
    have hwr := hs.writeArray_nil (by rw [hjob]; rfl)
    rw [hjob] at hshape
    rw [linkUlpsEnter_eq]
    refine ⟨?_, iff_of_true rfl rfl, hwr, hs.writeArray_length, hs.fifo_length⟩
    rw [linkShape_ulpsEnter hshape]
    rfl
  | exited hjob hdata =>
    have hwr := hs.writeArray_nil (by rw [hjob]; rfl)
    rw [hjob] at hshape
    rw [linkUlpsExit_eq]
    refine ⟨?_, iff_of_false (by simp) (by simp), hwr, hs.writeArray_length, hs.fifo_length⟩
    rw [linkShape_ulpsExit hshape]
    rfl

/-- A frame in flight leaves the lanes idle when it ends. -/
theorem State.LinkInv.of_frame_end {s t : State} (hs : s.LinkInv) (hfsm : s.FsmInv) (hscan : s.frame.fsm = .scanning)
    (h : t.link = { s.link with data := .stop }) : t.LinkInv := by
  have hshape := hs.shape
  have hdata : s.link.data = .hsFrame := hfsm.lanes_iff.2 hscan
  rw [hdata] at hshape
  obtain ⟨hjob, hulps⟩ := linkShape_hsFrame hshape
  exact hs.of_stop hulps (hs.clk_ne (by simp [hdata])) (hs.writeArray_nil (by rw [hjob]; rfl)) (by rw [h, ← hjob])

theorem scanStep_linkInv {s : State} (hfsm : s.FsmInv) (hs : s.LinkInv) : (scanStep s).LinkInv := by
  have h := scanStep_after s
  generalize scanStep s = t at h ⊢
  cases h with
  | kept => exact hs
  | fault => exact hs.of_eq rfl
  | latchFault => exact hs.of_eq rfl
  | begins mode ls _ hlanes hulps =>
    obtain ⟨hjob, _⟩ := hlanes
    rw [beginScan_eq]
    refine ⟨?_, iff_of_false (by simp) (by simp), hs.writeArray, hs.writeArray_length,
      hs.fifo_length⟩
    simp only [State.latch_link, hjob, hulps]
    rfl
  | ends sc hscan =>
    rw [frameEnd_eq]
    exact hs.of_frame_end hfsm hscan rfl

theorem envStep_linkInv (e : EnvEvent) {s : State} (hfsm : s.FsmInv) (hs : s.LinkInv) : (envStep e s).LinkInv := by
  have hended {t : State} (hdata : s.link.data = .bta) (h : t.link = { s.link with data := .stop, job := none }) :
      t.LinkInv := by
    have hshape := hs.shape
    rw [hdata] at hshape
    obtain ⟨⟨p, hjob⟩, hulps⟩ := linkShape_bta hshape
    exact hs.of_stop hulps (hs.clk_ne (by simp [hdata])) (hs.writeArray_nil (by rw [hjob]; rfl)) h
  have h := envStep_after e s
  generalize envStep e s = t at h ⊢
  cases h with
  | byte b _ hroom =>
    refine ⟨hs.shape, hs.clock, hs.writeArray, hs.writeArray_length, ?_⟩
    rw [List.length_append]
    exact hroom
  | response hdata => exact hended hdata rfl
  | failure c hdata => exact hended hdata rfl
  | abort k c hscan => exact hs.of_frame_end hfsm hscan rfl
  | pulse => exact hs.of_eq (by simp)
  | _ => exact hs.of_eq rfl

theorem step_fsmInv_linkInv {s t : State} (hs : s.FsmInv ∧ s.LinkInv) (h : step s = .next t) : t.FsmInv ∧ t.LinkInv :=
  step_keeps_of_sameHardware (P := fun u => u.FsmInv ∧ u.LinkInv)
    (same := fun _ _ hsame ⟨hfsm, hlink⟩ =>
      ⟨hfsm.of_eq hsame.frame (by rw [hsame.data]), hlink.of_fifo hsame.link hsame.fifo⟩)
    (op := fun _ _ _ ⟨hfsm, hlink⟩ h => ⟨exec_fsmInv hfsm h, exec_linkInv hlink h⟩)
    (link := fun u ⟨hfsm, hlink⟩ => ⟨hfsm.of_eq (by simp) (linkStep_hsFrame u), linkStep_linkInv hlink⟩)
    (scan := fun _ ⟨hfsm, hlink⟩ => ⟨scanStep_fsmInv hfsm, scanStep_linkInv hfsm hlink⟩)
    (env := fun e _ ⟨hfsm, hlink⟩ => ⟨envStep_fsmInv e hfsm, envStep_linkInv e hfsm hlink⟩)
    (pixel := fun a b _ ⟨hfsm, hlink⟩ => ⟨producerWrite_fsmInv a b hfsm, hlink.of_eq (by simp)⟩) hs h

/-- Settles O54. -/
theorem stepKeepsLink : Obligations.StepKeepsLink := fun _ _ hfsm hlink h => (step_fsmInv_linkInv ⟨hfsm, hlink⟩ h).2

end Sys2Proof.Machine
end

section
/-! R67, R239 to R244, R262, R267: a pending job moves on. -/

namespace Sys2Proof.Machine

/-- With a job pending and the bus not turned around, the LINK agent begins the transmission, or ends the job, or turns
the bus around. -/
theorem linkStep_moves {s : State} (hs : s.LinkInv) (hjob : s.link.job ≠ none) (hdata : s.link.data ≠ .bta) :
    s.link.data = .stop ∧ (linkStep s).link.data = .lpTx ∨ (linkStep s).link.job = none
      ∨ (linkStep s).link.data = .bta := by
  have h := linkStep_after s
  generalize linkStep s = t at h ⊢
  cases h with
  | kept hidle => exact ((hidle hs.shape).elim hjob hdata).elim
  | begins _ hstop => exact .inl ⟨hstop, rfl⟩
  | sent p => exact .inr (.inl (by rw [linkSent_eq]))
  | turned p => exact .inr (.inr (by rw [linkTurn_eq]))
  | entered => exact .inr (.inl (by rw [linkUlpsEnter_eq]))
  | exited => exact .inr (.inl (by rw [linkUlpsExit_eq]))

/-- So its step changes the link. -/
theorem linkStep_ne {s : State} (hs : s.LinkInv) (hjob : s.link.job ≠ none) (hdata : s.link.data ≠ .bta) :
    (linkStep s).link ≠ s.link := by
  intro heq
  rcases linkStep_moves hs hjob hdata with ⟨hstop, hlp⟩ | hnone | hbta
  · rw [heq, hstop] at hlp
    cases hlp
  · exact hjob (heq ▸ hnone)
  · exact hdata (heq ▸ hbta)

/-- While the bus is turned around, each event that ends the response ends the job (R242 to R244). -/
theorem envStep_ends_response {s : State} (hdata : s.link.data = .bta) {e : EnvEvent}
    (he : e = .rxEnd ∨ e = .rxTimeout ∨ e = .btaFail ∨ e = .rxError) :
    (envStep e s).link.job = none ∧ (envStep e s).link.data = .stop := by
  rcases he with rfl | rfl | rfl | rfl <;> simp [envStep, envRxEnd, envRxFail, hdata]

/-- Settles O55. -/
theorem pendingJobProgresses : Obligations.PendingJobProgresses := fun _ hs hjob =>
  ⟨fun hdata => ⟨_, rfl, linkStep_ne hs hjob hdata⟩, fun hdata _ he => ⟨_, rfl, envStep_ends_response hdata he⟩⟩

end Sys2Proof.Machine
end

section
/-! R42 to R44, R49, R75 to R77, R83, R324, R355: the configuration fields agree with one another. -/

namespace Sys2Proof.Machine

/-- Once the DSI is configured, every field its initialisation writes is set (R42 to R44, R49). -/
def Dsi.Coherent (d : Dsi) : Prop := d.configured = true → d.mode.isSome ∧ d.lanes.isSome ∧ d.teEdge.isSome

/-- Once panel timing is set, its counts are (R75 to R77). -/
def Tim.Coherent (p : Tim) : Prop := p.set = true → p.counts.isSome ∧ p.smartPix.isSome

/-- A layer's phase, enable and format agree with one another, with its active configuration, and with whether panel
timing is set (R83, R324, R355). -/
structure LayerState.Coherent (timSet : Bool) (L : LayerState) : Prop where
  enabled_iff : L.phase = .enabled ↔ L.sh.en = true
  enabled_ready : L.sh.en = true → timSet = true ∧ L.sh.fmt.isSome
  active_format : ∀ c, L.act = some c → c.en = true → c.fmt.isSome

theorem State.configInv_iff (s : State) :
    s.ConfigInv ↔ s.dsi.Coherent ∧ s.tim.Coherent ∧ ∀ l, (s.layers.get l).Coherent s.tim.set :=
  ⟨fun h => ⟨h.configured, h.timing, fun l => ⟨h.enabled_iff l, h.enabled_ready l, h.active_format l⟩⟩,
    fun ⟨hdsi, htim, hlayers⟩ => ⟨hdsi, htim, fun l => (hlayers l).enabled_iff, fun l => (hlayers l).enabled_ready,
      fun l => (hlayers l).active_format⟩⟩

theorem State.ConfigInv.of_eq {s t : State} (hs : s.ConfigInv) (hdsi : t.dsi = s.dsi) (htim : t.tim = s.tim)
    (hlayers : t.layers = s.layers) : t.ConfigInv := by
  rw [State.configInv_iff, hdsi, htim, hlayers]
  exact (State.configInv_iff s).1 hs

theorem Dsi.program_coherent (d : Dsi) (n : LaneCount) (mode : DisplayMode) (bitClock : Word) (div : Nat) :
    (d.program n mode bitClock div).Coherent := by
  intro _
  cases mode <;> exact ⟨rfl, rfl, rfl⟩

theorem exec_dsi_coherent {i : Instr} {s t : State} (h : exec i s = .next t) (hs : s.dsi.Coherent) : t.dsi.Coherent := by
  cases i with
  | dsiInit lanes mode bitClock pixelClock =>
    cases h
    rcases dsiInit_cases lanes mode bitClock pixelClock s with ⟨f, r, hmarks⟩ | ⟨_, _, n, hinit⟩
    · rwa [hmarks]
    · rw [hinit]
      exact Dsi.program_coherent _ _ _ _ _
  | dsiSleep =>
    cases h
    unfold dsiSleep
    split_ifs
    · exact hs
    · exact hs
    · exact hs
  | dsiWakeup =>
    cases h
    unfold dsiWakeup
    split_ifs
    · exact hs
    · exact hs
  | _ =>
    cases h
    simpa using hs

/-- `lcdc.set_timing` faults, or writes panel timing (R320). -/
theorem setTiming_cases (c : TimingCounts) (s : State) :
    s.OnlyMarks (setTiming c s) ∨ ∃ mode, setTiming c s = State.finish { s with tim := timWritten c mode } .ok := by
  unfold setTiming
  split_ifs
  · exact .inl (s.onlyMarks_fail _)
  · exact .inl (s.onlyMarks_fail _)
  · cases s.dsi.mode with
    | none => exact .inl (s.onlyMarks_fail _)
    | some mode => exact .inr ⟨mode, rfl⟩

theorem setModeDefaults_cases (s : State) :
    s.OnlyMarks (setModeDefaults s) ∨ ∃ c, setModeDefaults s = setTiming c s := by
  unfold setModeDefaults
  split_ifs
  · exact .inl (s.onlyMarks_fail _)
  · cases s.dsi.mode with
    | none => exact .inl (s.onlyMarks_fail _)
    | some mode => exact .inr ⟨_, rfl⟩

/-- What each host operation does to panel timing: it stays, or is written, or the reset clears it. -/
theorem exec_tim {i : Instr} {s t : State} (h : exec i s = .next t) :
    t.tim = s.tim ∨ (∃ c mode, t.tim = timWritten c mode) ∨ i = .lcdcReset ∧ t.tim = Tim.afterReset := by
  have hset (c : TimingCounts) : (setTiming c s).tim = s.tim ∨ ∃ c' mode, (setTiming c s).tim = timWritten c' mode := by
    rcases setTiming_cases c s with ⟨f, r, hmarks⟩ | ⟨mode, htim⟩
    · exact .inl (by rw [hmarks])
    · exact .inr ⟨c, mode, by rw [htim]; rfl⟩
  cases i with
  | lcdcSetTiming c =>
    cases h
    exact (hset c).imp_right .inl
  | lcdcSetModeDefaults =>
    cases h
    rcases setModeDefaults_cases s with ⟨f, r, hmarks⟩ | ⟨c, hdefaults⟩
    · exact .inl (by rw [hmarks])
    · rw [hdefaults]
      exact (hset c).imp_right .inl
  | lcdcReset =>
    cases h
    exact .inr (.inr ⟨rfl, rfl⟩)
  | _ =>
    cases h
    exact .inl (by simp)

theorem exec_tim_coherent {i : Instr} {s t : State} (h : exec i s = .next t) (hs : s.tim.Coherent) : t.tim.Coherent := by
  rcases exec_tim h with ht | ⟨c, mode, ht⟩ | ⟨_, ht⟩
  · rwa [ht]
  · rw [ht]
    exact fun _ => ⟨rfl, rfl⟩
  · rw [ht]
    exact fun hset => Bool.noConfusion hset

/-- Panel timing once set stays set, but for the reset (R324). -/
theorem exec_tim_set {i : Instr} {s t : State} (h : exec i s = .next t) (hi : i ≠ .lcdcReset) (hs : s.tim.set = true) :
    t.tim.set = true := by
  rcases exec_tim h with ht | ⟨c, mode, ht⟩ | ⟨hreset, _⟩
  · rwa [ht]
  · rw [ht]
    rfl
  · exact absurd hreset hi

theorem LayerState.Coherent.mono {b b' : Bool} {L : LayerState} (h : L.Coherent b) (hb : b = true → b' = true) :
    L.Coherent b' :=
  ⟨h.enabled_iff, fun hen => (h.enabled_ready hen).imp_left hb, h.active_format⟩

/-- What keeps the enable and the active configuration, and does not lose the format, keeps a layer coherent. -/
theorem LayerState.Coherent.of_kept {b : Bool} {L M : LayerState} (h : L.Coherent b)
    (hphase : M.phase = .enabled ↔ L.phase = .enabled) (hen : M.sh.en = L.sh.en)
    (hfmt : L.sh.fmt.isSome → M.sh.fmt.isSome) (hact : M.act = L.act) : M.Coherent b where
  enabled_iff := by rw [hphase, hen, h.enabled_iff]
  enabled_ready := by
    rw [hen]
    exact fun hon => (h.enabled_ready hon).imp_right hfmt
  active_format := by
    rw [hact]
    exact h.active_format

theorem LayerState.Coherent.touch {b : Bool} {L : LayerState} (h : L.Coherent b) : L.touch.Coherent b :=
  h.of_kept (LayerState.touch_enabled L) (by simp) (by simp) (by simp)

theorem LayerState.coherent_setEnable {b : Bool} {L : LayerState} (h : L.Coherent b) {on : Bool}
    (hon : on = true → b = true ∧ L.sh.fmt.isSome) : (L.setEnable on).Coherent b := by
  refine ⟨?_, hon, h.active_format⟩
  cases on <;> simp [LayerState.setEnable]

theorem LayerState.coherent_afterReset (b : Bool) (r : LayerRegs) : (LayerState.afterReset r).Coherent b :=
  ⟨by simp [LayerState.afterReset], fun h => Bool.noConfusion h, fun _ h => Option.noConfusion rfl (heq_of_eq h)⟩

theorem coherent_set {b : Bool} {p : PerLayer LayerState} (h : ∀ l, (p.get l).Coherent b) {l : Layer} {L : LayerState}
    (hL : L.Coherent b) (l' : Layer) : ((p.set l L).get l').Coherent b := by
  rw [PerLayer.get_set]
  split_ifs
  · exact hL
  · exact h l'

theorem exec_layers_coherent {i : Instr} {s t : State} (h : exec i s = .next t)
    (hs : ∀ l, (s.layers.get l).Coherent s.tim.set) (l : Layer) : (t.layers.get l).Coherent t.tim.set := by
  by_cases hi : i = .lcdcReset
  · subst hi
    cases h
    obtain ⟨r, hr⟩ := panelReset_layer s l
    rw [hr]
    exact LayerState.coherent_afterReset _ r
  refine LayerState.Coherent.mono ?_ (exec_tim_set h hi)
  cases exec_layers h with
  | kept ht =>
    rw [ht]
    exact hs l
  | shadow l' f _ hen hfmt ht =>
    rw [ht]
    have hshadow : LayerState.Coherent s.tim.set { s.layers.get l' with sh := f (s.layers.get l').sh } :=
      (hs l').of_kept Iff.rfl (hen _) (hfmt _) rfl
    exact coherent_set hs hshadow.touch l
  | address l' c a _ _ ht =>
    rw [ht]
    exact coherent_set hs ((hs l').of_kept (M := (s.layers.get l').putAddr c a) (by simp) (by simp) (by simp)
      (by simp)).touch l
  | enable l' on _ hon ht =>
    rw [ht]
    exact coherent_set hs (LayerState.coherent_setEnable (hs l') hon) l
  | reset hreset => exact absurd hreset hi

theorem exec_configInv {i : Instr} {s t : State} (hs : s.ConfigInv) (h : exec i s = .next t) : t.ConfigInv := by
  rw [State.configInv_iff] at hs ⊢
  obtain ⟨hdsi, htim, hlayers⟩ := hs
  exact ⟨exec_dsi_coherent h hdsi, exec_tim_coherent h htim, exec_layers_coherent h hlayers⟩

/-- A SCAN step keeps each layer's shadow, and an active configuration it latches is that shadow (R80). -/
theorem scanStep_configInv {s : State} (hs : s.ConfigInv) : (scanStep s).ConfigInv := by
  have hdsi : (scanStep s).dsi = s.dsi := by simp
  have htim : (scanStep s).tim = s.tim := by simp
  rw [State.configInv_iff] at hs ⊢
  obtain ⟨hdsi', htim', hlayers⟩ := hs
  rw [hdsi, htim]
  refine ⟨hdsi', htim', fun l => ?_⟩
  obtain ⟨hsh, hphase, _, hact⟩ := scanStep_layer s l
  refine ⟨by rw [hsh, hphase, (hlayers l).enabled_iff], by rw [hsh]; exact (hlayers l).enabled_ready, ?_⟩
  rcases hact with hact | hact
  · rw [hact]
    exact (hlayers l).active_format
  · rw [hact]
    intro c hc hen
    cases hc
    exact ((hlayers l).enabled_ready hen).2

theorem step_configInv {s t : State} (hs : s.ConfigInv) (h : step s = .next t) : t.ConfigInv :=
  step_keeps_of_sameHardware
    (same := fun _ _ hsame hs => hs.of_eq hsame.dsi hsame.tim hsame.layers)
    (op := fun _ _ _ hs h => exec_configInv hs h)
    (link := fun _ hs => hs.of_eq (by simp) (by simp) (by simp))
    (scan := fun _ hs => scanStep_configInv hs)
    (env := fun _ _ hs => hs.of_eq (by simp) (by simp) (by simp))
    (pixel := fun _ _ _ hs => hs.of_eq (by simp) (by simp) (by simp)) hs h

end Sys2Proof.Machine
end

section
/-! R70, R73: the reserved bits of the status and enable words. -/

namespace Sys2Proof.Machine

/-- A word that sets no bit of a mask but those another sets has none of them if the other has none. -/
theorem and_eq_zero_of_bits {w w' m : Word} (h : ∀ j, m.getLsbD j = true → w'.getLsbD j = true → w.getLsbD j = true)
    (hw : w &&& m = 0#32) : w' &&& m = 0#32 := by
  apply BitVec.eq_of_getLsbD_eq
  intro j _
  have hbit : (w &&& m).getLsbD j = false := by rw [hw, BitVec.getLsbD_zero]
  rw [BitVec.getLsbD_zero, BitVec.getLsbD_and]
  rw [BitVec.getLsbD_and] at hbit
  by_contra hset
  obtain ⟨h', hm⟩ := (Bool.and_eq_true_iff).1 (by simpa using hset)
  simp [h j hm h', hm] at hbit

/-- Clearing bits sets none. -/
theorem and_and_eq_zero {w m : Word} (x : Word) (hw : w &&& m = 0#32) : w &&& x &&& m = 0#32 := by
  rw [BitVec.and_assoc, BitVec.and_comm x m, ← BitVec.and_assoc, hw, BitVec.zero_and]

/-- Setting bits outside a mask sets none of it. -/
theorem or_and_eq_zero {w m x : Word} (hw : w &&& m = 0#32) (hx : x &&& m = 0#32) : (w ||| x) &&& m = 0#32 := by
  have hdistrib : (w ||| x) &&& m = (w &&& m) ||| (x &&& m) := by
    ext j
    simp [Bool.and_or_distrib_right]
  rw [hdistrib, hw, hx, BitVec.or_zero]

/-- The reserved bits of the status word (R70), and of the enable word (R73). -/
def Irq.Reserved (q : Irq) : Prop := q.status &&& 0xFFF0C000#32 = 0#32 ∧ q.enable &&& 0xFFFFFE00#32 = 0#32

theorem State.reservedInv_iff (s : State) : s.ReservedInv ↔ s.irq.Reserved := Iff.rfl

theorem Cause.mask_reserved (c : Cause) : (1#32 <<< c.bit) &&& 0xFFF0C000#32 = 0#32 := by
  cases c with
  | frameDone l => cases l <;> decide
  | _ => decide

theorem Irq.Reserved.set {q : Irq} (h : q.Reserved) {m : Word} (hm : m &&& 0xFFF0C000#32 = 0#32) :
    Irq.Reserved { q with status := q.status ||| m } := ⟨or_and_eq_zero h.1 hm, h.2⟩

theorem State.ReservedInv.setCause {s : State} (h : s.ReservedInv) (c : Cause) : (s.setCause c).ReservedInv := by
  rw [State.setCause_eq]
  exact Irq.Reserved.set h c.mask_reserved

theorem State.ReservedInv.of_irq {s t : State} (h : s.ReservedInv) (hirq : t.irq = s.irq) : t.ReservedInv := by
  rw [State.reservedInv_iff, hirq]
  exact h

/-- The reserved bits from 14 on that are not channel bits (R70). -/
theorem statusReserved_bit {j : Nat} (h : (0xFFF0C000#32).getLsbD j = true) : 14 ≤ j ∧ j < 16 ∨ 20 ≤ j := by
  by_contra hj
  have hlt : j < 20 := by omega
  interval_cases j <;> simp_all

theorem exec_status_reserved {i : Instr} {s t : State} (h : exec i s = .next t)
    (hs : s.irq.status &&& 0xFFF0C000#32 = 0#32) : t.irq.status &&& 0xFFF0C000#32 = 0#32 := by
  cases exec_status h with
  | clears m _ ht =>
    rw [ht]
    exact and_and_eq_zero _ hs
  | pulse ht =>
    rw [ht]
    exact or_and_eq_zero hs (by decide)

/-- The enables an acknowledgement gives back are those of fatal causes (R416). -/
theorem fatalMasked_reserved (w : BitVec 2) : (w.setWidth 32 <<< 7 : Word) &&& 0xFFFFFE00#32 = 0#32 := by
  revert w
  decide

theorem exec_enable_reserved {i : Instr} {s t : State} (h : exec i s = .next t)
    (hs : s.irq.enable &&& 0xFFFFFE00#32 = 0#32) : t.irq.enable &&& 0xFFFFFE00#32 = 0#32 := by
  cases i with
  | dsiInit lanes mode bitClock pixelClock =>
    cases h
    rcases dsiInit_cases lanes mode bitClock pixelClock s with ⟨f, r, hmarks⟩ | ⟨_, _, n, hinit⟩
    · rwa [hmarks]
    · rwa [hinit]
  | dsiSend cmd params =>
    cases h
    rcases dsiSend_cases cmd params s with ⟨f, r, hmarks⟩ | ⟨_, p, _, hsend⟩
    · rwa [hmarks]
    · rwa [hsend, State.startJob_eq, State.wrPushAll_eq]
  | dsiRead cmd len =>
    cases h
    rcases dsiRead_cases cmd len s with ⟨f, r, hmarks⟩ | ⟨_, p, ph, hread⟩
    · rwa [hmarks]
    · rw [hread, State.startJob_eq]
      simpa using hs
  | dsiUlpsEnter =>
    cases h
    rcases dsiUlpsEnter_cases s with ⟨f, r, hmarks⟩ | ⟨_, _, henter⟩
    · rwa [hmarks]
    · rwa [henter]
  | dsiUlpsExit =>
    cases h
    rcases dsiUlpsExit_cases s with ⟨f, r, hmarks⟩ | ⟨_, _, hexit⟩
    · rwa [hmarks]
    · rwa [hexit]
  | dsiTeirqEnable =>
    cases h
    rw [State.teirq_true]
    exact or_and_eq_zero hs (by decide)
  | dsiTeirqDisable =>
    cases h
    rw [State.teirq_false]
    exact and_and_eq_zero _ hs
  | dsiClearError w =>
    cases h
    exact hs
  | lcdcTeTrigger =>
    cases h
    rw [State.tePulse_eq]
    exact hs
  | lcdcErrorClr =>
    cases h
    rw [errorClr_irq, Irq.acknowledged]
    exact or_and_eq_zero hs (fatalMasked_reserved _)
  | irqEnable mask =>
    cases h
    have hdisjoint : enableMask &&& 0xFFFFFE00#32 = 0#32 := by decide
    simp only [State.finish_irq, State.putEnable]
    rw [BitVec.and_assoc, hdisjoint, BitVec.and_zero]
  | irqDisable =>
    cases h
    exact BitVec.zero_and
  | lcdcReset =>
    cases h
    exact BitVec.zero_and
  | _ =>
    cases h
    simpa using hs

theorem handlerEntry_reserved {s : State} (hs : s.ReservedInv) : (handlerEntry s).ReservedInv := by
  obtain ⟨hstatus, henable⟩ := hs
  refine ⟨and_eq_zero_of_bits (fun j _ h => ?_) hstatus, and_eq_zero_of_bits (fun j _ h => ?_) henable⟩
  · rw [getLsbD_handlerEntry_status] at h
    exact (Bool.and_eq_true_iff.1 h).1
  · rw [getLsbD_handlerEntry_enable] at h
    exact (Bool.and_eq_true_iff.1 h).1

theorem linkStep_reserved {s : State} (hs : s.ReservedInv) : (linkStep s).ReservedInv := by
  have hdone : Irq.Reserved { s.irq with status := s.irq.status ||| 0x00001000#32 } := Irq.Reserved.set hs (by decide)
  have h := linkStep_after s
  generalize linkStep s = t at h ⊢
  cases h with
  | kept => exact hs
  | begins => exact hs
  | sent p =>
    rw [linkSent_eq]
    exact hdone
  | turned p =>
    rw [linkTurn_eq]
    exact hs
  | entered =>
    rw [linkUlpsEnter_eq]
    exact hdone
  | exited =>
    rw [linkUlpsExit_eq]
    exact hdone

theorem scanStep_reserved {s : State} (hs : s.ReservedInv) : (scanStep s).ReservedInv := by
  have h := scanStep_after s
  generalize scanStep s = t at h ⊢
  cases h with
  | kept => exact hs
  | fault => exact hs
  | latchFault => exact hs
  | begins mode ls =>
    rw [beginScan_eq]
    exact Irq.Reserved.set hs (by decide)
  | ends sc =>
    rw [frameEnd_eq]
    obtain ⟨hstatus, henable⟩ := hs
    refine ⟨and_eq_zero_of_bits (fun j hj h => ?_) hstatus, ?_⟩
    · rwa [getLsbD_completeLayers_other sc s (by have := statusReserved_bit hj; omega)] at h
    · rw [completeLayers_irq]
      exact henable

theorem envStep_reserved (e : EnvEvent) {s : State} (hs : s.ReservedInv) : (envStep e s).ReservedInv := by
  have h := envStep_after e s
  generalize envStep e s = t at h ⊢
  cases h with
  | kept => exact hs
  | byte => exact hs
  | response => exact (State.ReservedInv.setCause (s := s.emit _) hs .rxDone)
  | failure c => exact hs.setCause c
  | pulse =>
    rw [State.tePulse_eq]
    exact Irq.Reserved.set hs (by decide)
  | lost => exact Irq.Reserved.set hs (by decide)
  | abort k c => exact Irq.Reserved.set hs c.mask_reserved
  | paused => exact Irq.Reserved.set hs (by decide)

theorem step_reservedInv {s t : State} (hs : s.ReservedInv) (h : step s = .next t) : t.ReservedInv :=
  step_keeps
    (pop := fun _ hs => hs)
    (op := fun _ _ _ hs h => ⟨exec_status_reserved h hs.1, exec_enable_reserved h hs.2⟩)
    (words := fun _ _ hs => hs)
    (work := fun _ _ _ ht => ht.of_irq (by simp))
    (poll := fun _ _ _ _ _ hs => hs.of_irq (by simp))
    (drain := fun _ _ _ hs => hs.of_irq (by simp))
    (enterWait := fun _ _ hs => hs.of_irq (by simp))
    (exitWait := fun _ _ hs => hs.of_irq (by simp))
    (entry := fun _ hs => handlerEntry_reserved hs)
    (ret := fun _ hs _ => hs)
    (link := fun _ hs => linkStep_reserved hs)
    (scan := fun _ hs => scanStep_reserved hs)
    (timer := fun _ hs => hs)
    (env := fun e _ hs => envStep_reserved e hs)
    (pixel := fun _ _ _ hs => hs.of_irq (by simp)) hs h

end Sys2Proof.Machine
end

section
/-! R97, R457: an idle handler has no work. -/

namespace Sys2Proof.Machine

theorem State.HandlerInv.of_isr {s t : State} (hs : s.HandlerInv) (h : t.isr = s.isr) : t.HandlerInv := by
  unfold State.HandlerInv
  rw [h]
  exact hs

theorem State.HandlerInv.of_active {s : State} (h : s.isr.active = true) : s.HandlerInv :=
  fun hidle => Bool.noConfusion (hidle.symm.trans h)

/-- An operation of the handler's work leaves the handler running. -/
theorem workDone_active {s u : State} (rest : List Action) (h : u.isr.active = true) :
    (workDone s rest u).isr.active = true := by
  unfold workDone
  split_ifs
  · exact h
  · exact h

theorem runChoice_handlerInv {c : Choice} {s t : State} (hs : s.HandlerInv) (h : runChoice c s = .next t) :
    t.HandlerInv := by
  cases c with
  | host =>
    rcases hostStep_cases h with rfl | ⟨i, rest, u, _, hu, rfl, _⟩ | ⟨cmd, len, t0, buf, _, rfl⟩ |
      ⟨cmd, len, t0, buf, _, rfl⟩ | ⟨t0, _, rfl⟩ | ⟨t0, _, rfl⟩
    · exact hs
    · obtain ⟨hisr, _⟩ := exec_frame hu
      refine hs.of_isr ?_
      rw [← hisr, consume]
      split_ifs <;> rfl
    all_goals exact hs.of_isr (by simp)
  | isr =>
    rcases isrStep_cases h with rfl | ⟨_, _, rfl⟩ | ⟨_, hwork, rfl⟩ | ⟨a, rest, u, hactive, _, hu, rfl⟩
    · exact hs
    · exact .of_active (handlerEntry_active s)
    · exact fun _ => hwork
    · obtain ⟨hisr, _⟩ := exec_frame hu
      exact .of_active (workDone_active rest (by rw [hisr]; exact hactive))
  | rawAccess a n => cases h
  | _ =>
    cases h
    exact hs.of_isr (by simp)

theorem step_handlerInv {s t : State} (hs : s.HandlerInv) (h : step s = .next t) : t.HandlerInv := by
  rw [step_eq] at h
  split at h
  · cases h
  · exact runChoice_handlerInv (s := s.popChoice) hs h

/-- Settles O57, invariant by invariant. -/
theorem stepKeepsConfiguration : Obligations.StepKeepsConfiguration := fun _ _ hconfig hreserved hhandler h =>
  ⟨step_configInv hconfig h, step_reservedInv hreserved h, step_handlerInv hhandler h⟩

end Sys2Proof.Machine
end

section
/-! R475, R243: in a fair run every link job ends. -/

namespace Sys2Proof.Machine

/-- While a job is pending no host operation changes the data lanes. -/
theorem exec_data_of_pending {i : Instr} {s t : State} (hs : s.LinkInv) (hjob : s.link.job ≠ none)
    (h : exec i s = .next t) : t.link.data = s.link.data := by
  cases exec_link h with
  | kept ht => rw [ht]
  | init hnone => exact absurd hnone hjob
  | send p hready =>
    obtain ⟨_, _, hnone, _⟩ := hready
    exact absurd hnone hjob
  | read p hready =>
    obtain ⟨_, _, hnone, _⟩ := hready
    exact absurd hnone hjob
  | ulpsEnter hlanes => exact absurd hlanes.1 hjob
  | ulpsExit hnone => exact absurd hnone hjob
  | reset _ ht =>
    have hframe : s.link.data ≠ .hsFrame := fun hdata => hjob (linkShape_hsFrame (hdata ▸ hs.shape)).1
    rw [ht, if_neg hframe]

theorem hostStep_data_of_pending {s t : State} (hs : s.LinkInv) (hjob : s.link.job ≠ none) (h : hostStep s = .next t) :
    t.link.data = s.link.data := by
  rcases hostStep_cases h with rfl | ⟨i, rest, u, _, hu, rfl, _⟩ | ⟨cmd, len, t0, buf, _, rfl⟩ |
    ⟨cmd, len, t0, buf, _, rfl⟩ | ⟨t0, _, rfl⟩ | ⟨t0, _, rfl⟩
  · rfl
  · rw [← exec_data_of_pending hs hjob hu, consume]
    split_ifs <;> rfl
  · exact (readPoll_sameHardware _ _ _ _ s).data
  · exact (readDrain_sameHardware _ _ s).data
  · simp
  · simp

theorem isrStep_data_of_pending {s t : State} (hs : s.LinkInv) (hjob : s.link.job ≠ none) (h : isrStep s = .next t) :
    t.link.data = s.link.data := by
  rcases isrStep_cases h with rfl | ⟨_, _, rfl⟩ | ⟨_, _, rfl⟩ | ⟨a, rest, u, _, _, hu, rfl⟩
  · rfl
  · simp
  · simp
  · rw [← exec_data_of_pending hs hjob hu]
    simp

/-- While a job is pending no frame is in flight. -/
theorem State.LinkInv.not_scanning {s : State} (hs : s.LinkInv) (hfsm : s.FsmInv) (hjob : s.link.job ≠ none) :
    s.frame.fsm ≠ .scanning :=
  fun hscan => hjob (linkShape_hsFrame (hfsm.lanes_iff.2 hscan ▸ hs.shape)).1

theorem scanStep_data_of_pending {s : State} (hfsm : s.FsmInv) (hs : s.LinkInv) (hjob : s.link.job ≠ none) :
    (scanStep s).link.data = s.link.data := by
  have h := scanStep_after s
  generalize scanStep s = t at h ⊢
  cases h with
  | kept => rfl
  | fault => rfl
  | latchFault => rfl
  | begins mode ls _ hlanes => exact absurd hlanes.1 hjob
  | ends sc hscan => exact absurd hscan (hs.not_scanning hfsm hjob)

theorem envStep_data_of_pending (e : EnvEvent) {s : State} (hfsm : s.FsmInv) (hs : s.LinkInv)
    (hjob : s.link.job ≠ none) : (envStep e s).link.job = none ∨ (envStep e s).link.data = s.link.data := by
  have h := envStep_after e s
  generalize envStep e s = t at h ⊢
  cases h with
  | response => exact .inl rfl
  | failure => exact .inl rfl
  | abort k c hscan => exact absurd hscan (hs.not_scanning hfsm hjob)
  | pulse => exact .inr (by simp)
  | _ => exact .inr rfl

/-- While a job is pending, a step of another agent than LINK ends it or keeps the data lanes. -/
theorem runChoice_data_of_pending {c : Choice} {s t : State} (hc : c ≠ .link) (hfsm : s.FsmInv) (hs : s.LinkInv)
    (hjob : s.link.job ≠ none) (h : runChoice c s = .next t) : t.link.job = none ∨ t.link.data = s.link.data := by
  cases c with
  | link => exact absurd rfl hc
  | host => exact .inr (hostStep_data_of_pending hs hjob h)
  | isr => exact .inr (isrStep_data_of_pending hs hjob h)
  | scan =>
    cases h
    exact .inr (scanStep_data_of_pending hfsm hs hjob)
  | timer =>
    cases h
    exact .inr rfl
  | env e =>
    cases h
    exact envStep_data_of_pending e hfsm hs hjob
  | pixelWrite a b =>
    cases h
    exact .inr (by simp)
  | rawAccess a n => cases h

/-- With the bus turned around the LINK agent waits. -/
theorem linkStep_of_bta {s : State} (hdata : s.link.data = .bta) : linkStep s = s := by
  unfold linkStep
  rw [hdata]
  rcases s.link.job with _ | ⟨_ | _ | _ | _⟩ <;> rfl

/-- The invariants a run keeps that speak of its link. -/
structure State.LinkRunInv (s : State) : Prop where
  fsm : s.FsmInv
  link : s.LinkInv

theorem State.LinkRunInv.sched {s : State} (h : s.LinkRunInv) (cs : List Choice) :
    State.LinkRunInv { s with sched := cs } :=
  ⟨h.fsm.of_eq rfl Iff.rfl, h.link.of_eq rfl⟩

theorem State.LinkRunInv.follow {s : State} (h : s.LinkRunInv) {choice : Nat → Choice} {n : Nat} {t : State}
    (ht : s.follow choice n = .next t) : t.LinkRunInv :=
  State.follow_keeps (fun _ _ hu => hu.sched _)
    (fun _ _ hu hstep => ⟨step_fsmInv hu.fsm hstep, stepKeepsLink _ _ hu.fsm hu.link hstep⟩) h choice n ht

/-- What a scheduled step does to the data lanes when a job is pending before and after it: LINK begins the
transmission or has the bus turned around, and another agent keeps them. -/
theorem step_data_of_pending {c : Choice} {s t : State} (hs : s.LinkRunInv) (hjob : s.link.job ≠ none)
    (h : step (s.choose c) = .next t) (hjob' : t.link.job ≠ none) :
    c ≠ .link ∧ t.link.data = s.link.data
      ∨ c = .link ∧ (s.link.data = .stop ∧ t.link.data = .lpTx ∨ t.link.data = .bta) := by
  obtain ⟨hfsm, hlink⟩ := hs.sched []
  rw [step_eq] at h
  split at h
  · cases h
  have hstep : runChoice c { s with sched := [] } = .next t := h
  by_cases hc : c = .link
  · subst hc
    refine .inr ⟨rfl, ?_⟩
    cases hstep
    by_cases hdata : s.link.data = .bta
    · rw [linkStep_of_bta (s := { s with sched := [] }) hdata]
      exact .inr hdata
    · rcases linkStep_moves hlink hjob hdata with hbegins | hnone | hbta
      · exact .inl hbegins
      · exact absurd hnone hjob'
      · exact .inr hbta
  · exact .inl ⟨hc, (runChoice_data_of_pending hc hfsm hlink hjob hstep).resolve_left hjob'⟩

/-- With a job pending and the bus not turned around LINK's step is enabled. -/
theorem State.LinkRunInv.enabled_link {s : State} (h : s.LinkRunInv) (hjob : s.link.job ≠ none)
    (hdata : s.link.data ≠ .bta) : s.enabled .link := by
  intro t ht heq
  cases ht
  have hlink : (linkStep s).link = s.link := by simpa using congrArg State.link heq
  exact linkStep_ne h.link hjob hdata hlink

section Pending

variable {s : State} {choice : Nat → Choice} {n : Nat} (hs : s.LinkRunInv)
  (hpending : ∀ m, n ≤ m → ∃ t, s.follow choice m = .next t ∧ t.link.job ≠ none)
include hs hpending

/-- Along a run in which a job stays pending, from one state to the next. -/
theorem follow_data_of_pending {m : Nat} (hm : n ≤ m) {t : State} (ht : s.follow choice m = .next t) :
    ∃ u, s.follow choice (m + 1) = .next u
      ∧ (choice m ≠ .link ∧ u.link.data = t.link.data
        ∨ choice m = .link ∧ (t.link.data = .stop ∧ u.link.data = .lpTx ∨ u.link.data = .bta)) := by
  obtain ⟨u, hu, hjob'⟩ := hpending (m + 1) (by omega)
  obtain ⟨t', ht', hjob⟩ := hpending m hm
  rw [ht] at ht'
  cases ht'
  refine ⟨u, hu, step_data_of_pending (hs.follow ht) hjob ?_ hjob'⟩
  rw [State.follow_succ, ht] at hu
  exact hu

/-- A turnaround would last for ever. -/
theorem follow_bta_of_pending {m : Nat} (hm : n ≤ m) {t : State} (ht : s.follow choice m = .next t)
    (hdata : t.link.data = .bta) (k : Nat) : ∃ u, s.follow choice (m + k) = .next u ∧ u.link.data = .bta := by
  induction k with
  | zero => exact ⟨t, ht, hdata⟩
  | succ k ih =>
    obtain ⟨u, hu, hbta⟩ := ih
    obtain ⟨v, hv, hcase⟩ := follow_data_of_pending hs hpending (by omega) hu
    refine ⟨v, hv, ?_⟩
    rcases hcase with ⟨_, hkept⟩ | ⟨_, ⟨hstop, _⟩ | hbta'⟩
    · rw [hkept, hbta]
    · rw [hbta] at hstop
      cases hstop
    · exact hbta'

/-- So the bus is not turned around. -/
theorem follow_ne_bta (hends : s.turnaroundsEnd choice) {m : Nat} (hm : n ≤ m) {t : State}
    (ht : s.follow choice m = .next t) : t.link.data ≠ .bta := by
  intro hdata
  obtain ⟨m', hm', hend⟩ := hends m t ht hdata
  obtain ⟨u, hu, hbta⟩ := follow_bta_of_pending hs hpending hm ht hdata (m' - m)
  rw [Nat.add_sub_cancel' hm'] at hu
  exact hend u hu hbta

/-- So LINK steps again and again. -/
theorem exists_link_choice (hfair : s.fair choice) {m : Nat} (hm : n ≤ m) : ∃ k, m ≤ k ∧ choice k = .link := by
  obtain ⟨hagents, hends⟩ := hfair
  refine hagents .link (.inr (.inr (.inl rfl))) m fun k hk => ?_
  obtain ⟨t, ht, hjob⟩ := hpending k (by omega)
  exact ⟨t, ht, (hs.follow ht).enabled_link hjob (follow_ne_bta hs hpending hends (by omega) ht)⟩

/-- What a LINK step of the run does: it begins the transmission. -/
theorem follow_link (hends : s.turnaroundsEnd choice) {m : Nat} (hm : n ≤ m) (hlink : choice m = .link) {t : State}
    (ht : s.follow choice m = .next t) :
    t.link.data = .stop ∧ ∃ u, s.follow choice (m + 1) = .next u ∧ u.link.data = .lpTx := by
  obtain ⟨u, hu, ⟨hne, _⟩ | ⟨_, ⟨hstop, hlp⟩ | hbta⟩⟩ := follow_data_of_pending hs hpending hm ht
  · exact absurd hlink hne
  · exact ⟨hstop, u, hu, hlp⟩
  · exact absurd hbta (follow_ne_bta hs hpending hends (by omega) hu)

/-- A transmission once begun would go on for ever. -/
theorem follow_lpTx (hends : s.turnaroundsEnd choice) {m : Nat} (hm : n ≤ m) {t : State}
    (ht : s.follow choice m = .next t) (hdata : t.link.data = .lpTx) (k : Nat) :
    ∃ u, s.follow choice (m + k) = .next u ∧ u.link.data = .lpTx := by
  induction k with
  | zero => exact ⟨t, ht, hdata⟩
  | succ k ih =>
    obtain ⟨u, hu, hlp⟩ := ih
    obtain ⟨v, hv, ⟨_, hkept⟩ | ⟨_, ⟨_, hlp'⟩ | hbta⟩⟩ := follow_data_of_pending hs hpending (by omega) hu
    · exact ⟨v, hv, by rw [hkept, hlp]⟩
    · exact ⟨v, hv, hlp'⟩
    · exact absurd hbta (follow_ne_bta hs hpending hends (by omega) hv)

/-- A job cannot stay pending in a fair run: LINK's first step begins the transmission, and its second finds the lanes
not idle. -/
theorem not_pending_forever (hfair : s.fair choice) : False := by
  have hends : s.turnaroundsEnd choice := hfair.2
  obtain ⟨m, hm, hlink⟩ := exists_link_choice hs hpending hfair le_rfl
  obtain ⟨t, ht, _⟩ := hpending m hm
  obtain ⟨_, u, hu, hlp⟩ := follow_link hs hpending hends hm hlink ht
  obtain ⟨k, hk, hlink'⟩ := exists_link_choice hs hpending hfair (m := m + 1) (by omega)
  obtain ⟨v, hv, hlp'⟩ := follow_lpTx hs hpending hends (by omega) hu hlp (k - (m + 1))
  rw [Nat.add_sub_cancel' hk] at hv
  obtain ⟨hstop, _⟩ := follow_link hs hpending hends (by omega) hlink' hv
  rw [hlp'] at hstop
  cases hstop

end Pending

/-- Settles O56: otherwise a job would stay pending from the `n`th step on. -/
theorem fairRunsEndJobs : Obligations.FairRunsEndJobs := by
  intro s choice n hfsm _ hlink hfair
  by_contra hnever
  refine not_pending_forever (s := s) (choice := choice) (n := n) ⟨hfsm, hlink⟩ (fun m hm => ?_) hfair
  by_contra hnone
  exact hnever ⟨m, hm, fun t ht => by_contra fun hjob => hnone ⟨t, ht, hjob⟩⟩

end Sys2Proof.Machine
end
